-- ==== Sys2Proof/Word.lean ====
section
/-! DEFINITION. The value types of the machine: bytes of the stream, signed 16-bit coordinates, colours, points,
text cells and windows. Rules R6, R7, R9 of 00_scope.md; widths of R28 to R37 of 10_state.md. -/

namespace Sys2Proof

/-- `u8`: one byte of the stream, an opcode, or an 8-bit register (R7). -/
abbrev Byte := BitVec 8

/-- `s16`: a coordinate, read as two's complement (R7). Sums of this type wrap modulo 2^16, which is `wrap16`. -/
abbrev S16 := BitVec 16

/-- A logical colour as the variable table holds it (R33, R34). -/
abbrev Logical := BitVec 7

/-- A mode number after masking (R89, R141). -/
abbrev ModeNumber := BitVec 7

/-- A point `(x, y)` in protocol units (R9, R29). -/
structure Point where
  x : S16
  y : S16
deriving DecidableEq, Repr, Inhabited

/-- A physical colour `(r, g, b)` (R28). -/
structure Colour where
  r : Byte
  g : Byte
  b : Byte
deriving DecidableEq, Repr, Inhabited

/-- A character cell: column 0 at the left, row 0 at the top (R31). -/
structure Cell where
  col : S16
  row : S16
deriving DecidableEq, Repr, Inhabited

/-- The four bounds of a window (R36, R37); no order among them is required (R263). -/
structure Window where
  left : S16
  bottom : S16
  right : S16
  top : S16
deriving DecidableEq, Repr, Inhabited

/-- The point `(0, 0)`. -/
def Point.zero : Point := ⟨0, 0⟩

end Sys2Proof
end

