-- ==== Sys2Proof/Config.lean ====
section
/-! DEFINITION. What an implementation of the hardware fixes: the mode descriptors and the mode table, the reset mode,
the extra control-table entries, the scaling to device coordinates; and the constants that stand for the values the spec
leaves unspecified. Rules R5 of 00_scope.md, R141, R142 of 41_screen_mode.md, R302 of 47_unlisted_control.md.

Every constant marked `opaque` has no body: nothing can be proved of its value, so a theorem that mentions one holds
whatever an implementation puts there. -/

namespace Sys2Proof

/-- `bitsPerPixel`: the four depths that R142 (b) admits. -/
inductive Depth where
  | bpp1 | bpp2 | bpp4 | bpp8
deriving DecidableEq, Repr, Inhabited

/-- `family` of a mode; no rule of this block branches on it (R150). -/
inductive Family where
  | paletted | trueColour | teletext
deriving DecidableEq, Repr, Inhabited

/-- A mode descriptor (R141) that R142 admits. Its proof fields are the constraints (d) and (e); (b) and (c) are in the
types of its fields, and (a) is in the lookup, which goes by `id`. So a table that breaks the constraints cannot be
written down: that is how the model refuses it. -/
structure ModeDesc where
  id : ModeNumber := 0
  textWidth : BitVec 15 := 1
  textHeight : BitVec 15 := 1
  pixelWidth : BitVec 15 := 0
  pixelHeight : BitVec 15 := 0
  unitWidth : BitVec 15 := 0
  unitHeight : BitVec 15 := 0
  bitsPerPixel : Depth := .bpp1
  family : Family := .paletted
  text_nonzero : textWidth ≠ 0 ∧ textHeight ≠ 0 := by decide
  pixel_unit : (pixelWidth = 0 ↔ pixelHeight = 0) ∧ (pixelWidth ≠ 0 → unitWidth ≠ 0 ∧ unitHeight ≠ 0) := by decide
deriving DecidableEq, Repr, Inhabited

/-- `CTRL_EXT`: operand counts 0 to 9 for control codes that the control table does not list (R302). An entry for a
listed code, or for a byte above 31, is never consulted, so every value of this type is an admissible map. -/
abbrev CtrlExt := List (Byte × Fin 10)

/-- The parameters a session is created with. They are configuration, not state of the spec's (R11); the model holds
them in its State as data that no step writes, so that a statement about every state holds for every mode table.
`MODE_TABLE` is `resetMode :: otherModes`, looked up by `id`, and `RESET_MODE` is `resetMode.id`: that `RESET_MODE` is
mapped (R142 (f)) is so by construction. -/
structure Params where
  resetMode : ModeDesc
  otherModes : List ModeDesc
  ctrlExt : CtrlExt
deriving DecidableEq, Repr

namespace Config

/-- `MODE_TABLE[RESET_MODE]`, an OPEN parameter (R5; D7, D8). -/
opaque resetMode : ModeDesc

/-- The other entries of `MODE_TABLE`, an OPEN parameter (R5; D7). -/
opaque otherModes : List ModeDesc

/-- `DEVICE_SCALE`: from the active mode, the origin and a point in protocol units to device coordinates; OPEN and
uninterpreted (R5; D20). It stands downstream of the renderer port: no rule of the block calls it. DESIGN CHOICE (log
entry 2): the spec does not say what a device coordinate is; the model takes a pair of rational numbers, so that neither
rounding nor its absence is assumed (N8), and this is unsafe in that it excludes any other kind of coordinate. -/
opaque deviceScale : ModeDesc → Point → Point → ℚ × ℚ

/-- FREE VALUE. What entry `i` of the palette RAM holds, for `i` at or above `2^bitsPerPixel`, after the mode activation
made at tick `t`: "unspecified and never read" (R28). -/
opaque unspecifiedColour : (t i : Nat) → Colour

/-- FREE VALUE. What the slot `V.char_spacing` reads as at tick `t`: "unspecified at all times" (R39). The spec gives it
no width. -/
opaque unspecifiedCharSpacing : (t : Nat) → Nat

end Config

end Sys2Proof
end

