-- ==== Sys2Proof/Syntax.lean ====
section
/-! DEFINITION. The commands: one constructor for each mnemonic of spec/opcode_table.json. A register number or an
operation code of an operand byte is already taken apart here; a byte that a command ignores stays a field, because the
result of the command carries all its operand bytes (R45) and no bit of an encoding is dropped.

The rows `VDU23` and `PLOT` are refined, word for word, by the five and the 32 rows that R99 adds below them. The decoder
gives the refined row; `vdu23` and `plot` are the whole commands, with the handlers of R280 and R234 as their meaning. -/

namespace Sys2Proof

/-- The effect field of a PLOT code, bits 1..0: 0 to 3 in this order (R92). -/
inductive PlotEffect where
  | move | foreground | inverse | background
deriving DecidableEq, Repr

/-- A command (R12, R80). Mnemonics are those of R83 to R85, R99 and R240. -/
inductive Instr where
  /-- 0 `NUL` (R210). -/
  | nul
  /-- 7 `BEL` (R211). -/
  | bel
  /-- 10 `LF` (R212). -/
  | lf
  /-- 12 `CLS` (R213). -/
  | cls
  /-- 13 `CR` (R214). -/
  | cr
  /-- 17 `COLOUR`: bit 7 of the operand, and bits 6..0 (R86, R170). -/
  | colour (background : Bool) (c : Logical)
  /-- 18 `GCOL`: the action byte, bit 7 of the colour byte, and its bits 6..0 (R87, R172). -/
  | gcol (action : Byte) (background : Bool) (c : Logical)
  /-- 19 `PALETTE`: logical, physical, red, green, blue; none is read (R88, R174). -/
  | palette (l p r g b : Byte)
  /-- 22 `MODE`: the shadow-bank bit and the mode number (R89, R148). -/
  | mode (shadow : Bool) (n : ModeNumber)
  /-- 23 `VDU23` as a whole: the sub-code and eight parameter bytes (R90, R280). -/
  | vdu23 (sub p1 p2 p3 p4 p5 p6 p7 p8 : Byte)
  /-- 24 `GWINDOW` (R91, R262). -/
  | gwindow (left bottom right top : S16)
  /-- 25 `PLOT` as a whole: the PLOT code and the point (R92, R234). -/
  | plot (k : Byte) (x y : S16)
  /-- 28 `TWINDOW` (R93, R264). -/
  | twindow (left bottom right top : S16)
  /-- 29 `ORIGIN` (R94, R266). -/
  | origin (x y : S16)
  /-- 31 `TAB` (R95, R215). -/
  | tab (c r : Byte)
  /-- 32 to 126 and 160 to 255 `CHAR`: the opcode is the character code (R216). -/
  | char (code : Byte)
  /-- 127 `DEL` (R217). -/
  | del
  /-- 128 to 159 `UDG`: the opcode is the character code (R218). -/
  | udg (code : Byte)
  -- The control codes with no table entry (R300); the list is empty unless CTRL_EXT gives the code operands (R302).
  /-- 1 `UNDEF01` (R300, R302). -/
  | undef01 (ops : List Byte)
  /-- 2 `UNDEF02` (R300, R302). -/
  | undef02 (ops : List Byte)
  /-- 3 `UNDEF03` (R300, R302). -/
  | undef03 (ops : List Byte)
  /-- 4 `UNDEF04` (R300, R302). -/
  | undef04 (ops : List Byte)
  /-- 5 `UNDEF05` (R300, R302). -/
  | undef05 (ops : List Byte)
  /-- 6 `UNDEF06` (R300, R302). -/
  | undef06 (ops : List Byte)
  /-- 8 `UNDEF08` (R300, R302). -/
  | undef08 (ops : List Byte)
  /-- 9 `UNDEF09` (R300, R302). -/
  | undef09 (ops : List Byte)
  /-- 11 `UNDEF11` (R300, R302). -/
  | undef11 (ops : List Byte)
  /-- 14 `UNDEF14` (R300, R302). -/
  | undef14 (ops : List Byte)
  /-- 15 `UNDEF15` (R300, R302). -/
  | undef15 (ops : List Byte)
  /-- 16 `UNDEF16` (R300, R302). -/
  | undef16 (ops : List Byte)
  /-- 20 `UNDEF20` (R300, R302). -/
  | undef20 (ops : List Byte)
  /-- 21 `UNDEF21` (R300, R302). -/
  | undef21 (ops : List Byte)
  /-- 26 `UNDEF26` (R300, R302). -/
  | undef26 (ops : List Byte)
  /-- 27 `UNDEF27` (R300, R302). -/
  | undef27 (ops : List Byte)
  /-- 30 `UNDEF30` (R300, R302). -/
  | undef30 (ops : List Byte)
  /-- 23, sub-code 1, `CURSOR`: the appearance byte, and seven bytes that are ignored (R284). -/
  | vdu23Cursor (n p2 p3 p4 p5 p6 p7 p8 : Byte)
  /-- 23, sub-code 7, `SCROLL`: extent, direction, movement, and five bytes that are ignored (R285). -/
  | vdu23Scroll (extent direction movement p4 p5 p6 p7 p8 : Byte)
  /-- 23, sub-code 16, `PRINTDIR`: the toggle byte, the keep byte, and six bytes that are ignored (R286). -/
  | vdu23Printdir (x y p3 p4 p5 p6 p7 p8 : Byte)
  /-- 23, sub-code 17, `TINT`: the selector, the value, and six bytes that are ignored (R287). -/
  | vdu23Tint (n v p3 p4 p5 p6 p7 p8 : Byte)
  /-- 23, every other sub-code (R288). -/
  | vdu23Reserved (sub p1 p2 p3 p4 p5 p6 p7 p8 : Byte)
  -- 25, one constructor for each of the 32 primitive codes (R240): the coordinate bit (set is absolute), the effect,
  -- and the point.
  /-- PLOT primitive code 0x00: line. -/
  | plot00 (absolute : Bool) (effect : PlotEffect) (x y : S16)
  /-- PLOT primitive code 0x08: line variant 1. -/
  | plot08 (absolute : Bool) (effect : PlotEffect) (x y : S16)
  /-- PLOT primitive code 0x10: line variant 2. -/
  | plot10 (absolute : Bool) (effect : PlotEffect) (x y : S16)
  /-- PLOT primitive code 0x18: line variant 3. -/
  | plot18 (absolute : Bool) (effect : PlotEffect) (x y : S16)
  /-- PLOT primitive code 0x20: line variant 4. -/
  | plot20 (absolute : Bool) (effect : PlotEffect) (x y : S16)
  /-- PLOT primitive code 0x28: line variant 5. -/
  | plot28 (absolute : Bool) (effect : PlotEffect) (x y : S16)
  /-- PLOT primitive code 0x30: line variant 6. -/
  | plot30 (absolute : Bool) (effect : PlotEffect) (x y : S16)
  /-- PLOT primitive code 0x38: line variant 7. -/
  | plot38 (absolute : Bool) (effect : PlotEffect) (x y : S16)
  /-- PLOT primitive code 0x40: point. -/
  | plot40 (absolute : Bool) (effect : PlotEffect) (x y : S16)
  /-- PLOT primitive code 0x48: horizontal line fill. -/
  | plot48 (absolute : Bool) (effect : PlotEffect) (x y : S16)
  /-- PLOT primitive code 0x50: triangle fill. -/
  | plot50 (absolute : Bool) (effect : PlotEffect) (x y : S16)
  /-- PLOT primitive code 0x58: horizontal line fill. -/
  | plot58 (absolute : Bool) (effect : PlotEffect) (x y : S16)
  /-- PLOT primitive code 0x60: rectangle fill. -/
  | plot60 (absolute : Bool) (effect : PlotEffect) (x y : S16)
  /-- PLOT primitive code 0x68: horizontal line fill. -/
  | plot68 (absolute : Bool) (effect : PlotEffect) (x y : S16)
  /-- PLOT primitive code 0x70: parallelogram fill. -/
  | plot70 (absolute : Bool) (effect : PlotEffect) (x y : S16)
  /-- PLOT primitive code 0x78: horizontal line fill. -/
  | plot78 (absolute : Bool) (effect : PlotEffect) (x y : S16)
  /-- PLOT primitive code 0x80: flood fill. -/
  | plot80 (absolute : Bool) (effect : PlotEffect) (x y : S16)
  /-- PLOT primitive code 0x88: flood fill. -/
  | plot88 (absolute : Bool) (effect : PlotEffect) (x y : S16)
  /-- PLOT primitive code 0x90: circle outline. -/
  | plot90 (absolute : Bool) (effect : PlotEffect) (x y : S16)
  /-- PLOT primitive code 0x98: circle fill. -/
  | plot98 (absolute : Bool) (effect : PlotEffect) (x y : S16)
  /-- PLOT primitive code 0xA0: arc. -/
  | plotA0 (absolute : Bool) (effect : PlotEffect) (x y : S16)
  /-- PLOT primitive code 0xA8: segment. -/
  | plotA8 (absolute : Bool) (effect : PlotEffect) (x y : S16)
  /-- PLOT primitive code 0xB0: sector. -/
  | plotB0 (absolute : Bool) (effect : PlotEffect) (x y : S16)
  /-- PLOT primitive code 0xB8: rectangle move/copy. -/
  | plotB8 (absolute : Bool) (effect : PlotEffect) (x y : S16)
  /-- PLOT primitive code 0xC0: ellipse outline. -/
  | plotC0 (absolute : Bool) (effect : PlotEffect) (x y : S16)
  /-- PLOT primitive code 0xC8: ellipse fill. -/
  | plotC8 (absolute : Bool) (effect : PlotEffect) (x y : S16)
  /-- PLOT primitive code 0xD0: font printing. -/
  | plotD0 (absolute : Bool) (effect : PlotEffect) (x y : S16)
  /-- PLOT primitive code 0xD8: reserved. -/
  | plotD8 (absolute : Bool) (effect : PlotEffect) (x y : S16)
  /-- PLOT primitive code 0xE0: reserved. -/
  | plotE0 (absolute : Bool) (effect : PlotEffect) (x y : S16)
  /-- PLOT primitive code 0xE8: sprite blit. -/
  | plotE8 (absolute : Bool) (effect : PlotEffect) (x y : S16)
  /-- PLOT primitive code 0xF0: reserved. -/
  | plotF0 (absolute : Bool) (effect : PlotEffect) (x y : S16)
  /-- PLOT primitive code 0xF8: reserved. -/
  | plotF8 (absolute : Bool) (effect : PlotEffect) (x y : S16)
deriving DecidableEq, Repr

end Sys2Proof
end

