-- ==== Sys2Proof/Machine/Operands.lean ====
section
/-! DEFINITION. The operand forms of the commands: little-endian words, the split colour and mode bytes, the fields of a
PLOT code, and the extension of a byte to 16 bits. Each form has the function that reads it and the function that writes
it. Rules R65, R66 of 20_memory.md and R86 to R96 of 30_encoding.md. -/

namespace Sys2Proof.Machine

/-- `le16(lo, hi)`: the word whose low byte comes first (R7, R65). As an `S16` it is read as two's complement, which is
`sext_16`. -/
def le16 (lo hi : Byte) : S16 := hi ++ lo

/-- The low byte of a word, sent first (R65). -/
def loByte (w : S16) : Byte := w.extractLsb' 0 8

/-- The high byte of a word, sent second (R65). -/
def hiByte (w : S16) : Byte := w.extractLsb' 8 8

/-- `zext_16` of a byte operand (R96 (a)). -/
def zext16 (b : Byte) : S16 := b.setWidth 16

/-- Bit 7 of an operand byte: the background bit of COLOUR and GCOL, the shadow-bank bit of MODE (R86, R87, R89). -/
def topBit (b : Byte) : Bool := b.getLsbD 7

/-- Bits 6..0 of an operand byte: a logical colour or a mode number (R86, R87, R89). -/
def lowSeven (b : Byte) : BitVec 7 := b.extractLsb' 0 7

/-- The byte with the given bit 7 and bits 6..0. -/
def splitByte (top : Bool) (low : BitVec 7) : Byte := BitVec.ofBool top ++ low

/-- The primitive code of a PLOT code: its low three bits cleared (R92). -/
def plotPrimitive (k : Byte) : Byte := k &&& 0xF8

/-- Bit 2 of a PLOT code: set is absolute (R92). -/
def plotAbsolute (k : Byte) : Bool := k.getLsbD 2

/-- Bits 1..0 of a PLOT code (R92). -/
def plotEffect (k : Byte) : PlotEffect :=
  match (k &&& 3).toNat with
  | 0 => .move
  | 1 => .foreground
  | 2 => .inverse
  | _ => .background

/-- The two bits that stand for an effect (R92). -/
def effectBits : PlotEffect → Byte
  | .move => 0
  | .foreground => 1
  | .inverse => 2
  | .background => 3

/-- The PLOT code with the given primitive code and fields (R92). -/
def plotCode (primitive : Byte) (absolute : Bool) (effect : PlotEffect) : Byte :=
  primitive ||| (if absolute then 4 else 0) ||| effectBits effect

end Sys2Proof.Machine
end

