-- ==== Sys2Proof/Machine/ControlTable.lean ====
section
/-! DEFINITION. How an opcode byte is classified and how many operand bytes follow it: the control table, its extension,
the classes of the opcodes above 31, and the sub-codes of opcode 23. Rules R80 to R85 of 30_encoding.md, R281 of
46_vdu23.md, R302 of 47_unlisted_control.md; the parameters with a value of R5. -/

namespace Sys2Proof.Machine

/-- `VDU19_LEN`, the operand count of opcode 19 (R5, R83). -/
def vdu19Len : Nat := 5

/-- `SUB_CURSOR` (R281). -/
def subCursor : Byte := 1
/-- `SUB_SCROLL` (R281). -/
def subScroll : Byte := 7
/-- `SUB_PRINTDIR` (R281). -/
def subPrintdir : Byte := 16
/-- `SUB_TINT` (R281). -/
def subTint : Byte := 17

/-- The value R5 gives `CTRL_EXT`: the empty map. -/
def defaultCtrlExt : CtrlExt := []

/-- The control table: exactly the fifteen entries of R83, each an opcode and its operand count. -/
def controlTable : List (Byte × Nat) :=
  [(0, 0), (7, 0), (10, 0), (12, 0), (13, 0), (17, 1), (18, 2), (19, vdu19Len), (22, 1), (23, 9), (24, 8), (25, 5),
   (28, 8), (29, 4), (31, 2)]

/-- The entry of a control code, or none: the control table first, then what `CTRL_EXT` adds for the seventeen codes the
table leaves out (R84, R302). -/
def controlCount (ext : CtrlExt) (op : Byte) : Option Nat :=
  match controlTable.lookup op with
  | some n => some n
  | none => (ext.lookup op).map Fin.val

/-- Opcode bits 7..5 are 000: a control code (R82). -/
def isControl (op : Byte) : Bool := decide (op.toNat < 32)

/-- Opcode bits 7..5 are 100: a user-defined glyph (R82). -/
def isUdg (op : Byte) : Bool := decide (128 ≤ op.toNat ∧ op.toNat ≤ 159)

/-- 32 to 126 and 160 to 255: printable (R82). -/
def isPrintable (op : Byte) : Bool := decide ((32 ≤ op.toNat ∧ op.toNat ≤ 126) ∨ 160 ≤ op.toNat)

/-- The number of operand bytes of an opcode, a function of the opcode alone (R80, R82). A control code with no entry is
discarded by itself, so nothing follows it (R119). -/
def operandCount (ext : CtrlExt) (op : Byte) : Nat :=
  if isControl op then (controlCount ext op).getD 0 else 0

/-- The sub-code is one of the four that opcode 23 gives a meaning (R281). -/
def isSubCode (s : Byte) : Bool := s == subCursor || s == subScroll || s == subPrintdir || s == subTint

end Sys2Proof.Machine
end

