-- ==== Sys2Proof/WellFormed.lean ====
section
/-! DEFINITION. Which terms of `Instr` are commands of the stream: a character code lies in its class, a reserved
sub-code is none of the four, and a control code without a table entry carries as many operands as CTRL_EXT gives it. -/

namespace Sys2Proof

open Machine

/-- A control code the table leaves out carries exactly the operands `CTRL_EXT` gives it: none by default (R300, R302). -/
def unlistedOk (ext : CtrlExt) (op : Byte) (ops : List Byte) : Bool := ops.length == operandCount ext op

/-- The term is a command of the stream, under the given `CTRL_EXT`. -/
def Instr.wellFormed (ext : CtrlExt) : Instr → Bool
  | .char code => isPrintable code
  | .udg code => isUdg code
  | .vdu23Reserved sub _ _ _ _ _ _ _ _ => !isSubCode sub
  | .undef01 ops => unlistedOk ext 1 ops
  | .undef02 ops => unlistedOk ext 2 ops
  | .undef03 ops => unlistedOk ext 3 ops
  | .undef04 ops => unlistedOk ext 4 ops
  | .undef05 ops => unlistedOk ext 5 ops
  | .undef06 ops => unlistedOk ext 6 ops
  | .undef08 ops => unlistedOk ext 8 ops
  | .undef09 ops => unlistedOk ext 9 ops
  | .undef11 ops => unlistedOk ext 11 ops
  | .undef14 ops => unlistedOk ext 14 ops
  | .undef15 ops => unlistedOk ext 15 ops
  | .undef16 ops => unlistedOk ext 16 ops
  | .undef20 ops => unlistedOk ext 20 ops
  | .undef21 ops => unlistedOk ext 21 ops
  | .undef26 ops => unlistedOk ext 26 ops
  | .undef27 ops => unlistedOk ext 27 ops
  | .undef30 ops => unlistedOk ext 30 ops
  | .nul => true
  | .bel => true
  | .lf => true
  | .cls => true
  | .cr => true
  | .colour _ _ => true
  | .gcol _ _ _ => true
  | .palette _ _ _ _ _ => true
  | .mode _ _ => true
  | .vdu23 _ _ _ _ _ _ _ _ _ => true
  | .gwindow _ _ _ _ => true
  | .plot _ _ _ => true
  | .twindow _ _ _ _ => true
  | .origin _ _ => true
  | .tab _ _ => true
  | .del => true
  | .vdu23Cursor _ _ _ _ _ _ _ _ => true
  | .vdu23Scroll _ _ _ _ _ _ _ _ => true
  | .vdu23Printdir _ _ _ _ _ _ _ _ => true
  | .vdu23Tint _ _ _ _ _ _ _ _ => true
  | .plot00 _ _ _ _ => true
  | .plot08 _ _ _ _ => true
  | .plot10 _ _ _ _ => true
  | .plot18 _ _ _ _ => true
  | .plot20 _ _ _ _ => true
  | .plot28 _ _ _ _ => true
  | .plot30 _ _ _ _ => true
  | .plot38 _ _ _ _ => true
  | .plot40 _ _ _ _ => true
  | .plot48 _ _ _ _ => true
  | .plot50 _ _ _ _ => true
  | .plot58 _ _ _ _ => true
  | .plot60 _ _ _ _ => true
  | .plot68 _ _ _ _ => true
  | .plot70 _ _ _ _ => true
  | .plot78 _ _ _ _ => true
  | .plot80 _ _ _ _ => true
  | .plot88 _ _ _ _ => true
  | .plot90 _ _ _ _ => true
  | .plot98 _ _ _ _ => true
  | .plotA0 _ _ _ _ => true
  | .plotA8 _ _ _ _ => true
  | .plotB0 _ _ _ _ => true
  | .plotB8 _ _ _ _ => true
  | .plotC0 _ _ _ _ => true
  | .plotC8 _ _ _ _ => true
  | .plotD0 _ _ _ _ => true
  | .plotD8 _ _ _ _ => true
  | .plotE0 _ _ _ _ => true
  | .plotE8 _ _ _ _ => true
  | .plotF0 _ _ _ _ => true
  | .plotF8 _ _ _ _ => true

end Sys2Proof
end

