-- ==== Sys2Proof/Decode.lean ====
section
/-! DEFINITION. From bytes to commands and back. The decoder takes the opcode byte, then as many operand bytes as the
opcode alone determines (R80), and pulls every operand field out here, once. It is total: a sequence of bytes is a
command with the bytes left over, or is refused by name because it ends too early; no byte value is an illegal opcode
(R82, R97). The encoder writes the same words from the same tables. -/

namespace Sys2Proof

open Machine

/-- The command of opcode 23 with the given operand bytes: the row of the sub-code (R99, R280). -/
def vdu23Refined (sub p1 p2 p3 p4 p5 p6 p7 p8 : Byte) : Instr :=
  if sub = subCursor then .vdu23Cursor p1 p2 p3 p4 p5 p6 p7 p8
  else if sub = subScroll then .vdu23Scroll p1 p2 p3 p4 p5 p6 p7 p8
  else if sub = subPrintdir then .vdu23Printdir p1 p2 p3 p4 p5 p6 p7 p8
  else if sub = subTint then .vdu23Tint p1 p2 p3 p4 p5 p6 p7 p8
  else .vdu23Reserved sub p1 p2 p3 p4 p5 p6 p7 p8

/-- The form of PLOT that a primitive code selects (R99, R240). -/
def plotForm (primitive : Byte) : Bool → PlotEffect → S16 → S16 → Instr :=
  match primitive.toNat with
  | 0x00 => .plot00
  | 0x08 => .plot08
  | 0x10 => .plot10
  | 0x18 => .plot18
  | 0x20 => .plot20
  | 0x28 => .plot28
  | 0x30 => .plot30
  | 0x38 => .plot38
  | 0x40 => .plot40
  | 0x48 => .plot48
  | 0x50 => .plot50
  | 0x58 => .plot58
  | 0x60 => .plot60
  | 0x68 => .plot68
  | 0x70 => .plot70
  | 0x78 => .plot78
  | 0x80 => .plot80
  | 0x88 => .plot88
  | 0x90 => .plot90
  | 0x98 => .plot98
  | 0xA0 => .plotA0
  | 0xA8 => .plotA8
  | 0xB0 => .plotB0
  | 0xB8 => .plotB8
  | 0xC0 => .plotC0
  | 0xC8 => .plotC8
  | 0xD0 => .plotD0
  | 0xD8 => .plotD8
  | 0xE0 => .plotE0
  | 0xE8 => .plotE8
  | 0xF0 => .plotF0
  | _ => .plotF8

/-- The command of opcode 25 with the given PLOT code and point: the row of the primitive code (R92, R99). -/
def plotRefined (k : Byte) (x y : S16) : Instr :=
  plotForm (plotPrimitive k) (plotAbsolute k) (plotEffect k) x y

/-- The row of the opcode table that a command falls under: the refined one where R99 refines a row, otherwise the
command itself. -/
def Instr.refined : Instr → Instr
  | .vdu23 sub p1 p2 p3 p4 p5 p6 p7 p8 => vdu23Refined sub p1 p2 p3 p4 p5 p6 p7 p8
  | .plot k x y => plotRefined k x y
  | i => i

/-- The command of a control code and its operand bytes (R83, R84, R86 to R95). -/
def controlCommand : (op : Nat) → (ops : List Byte) → Option Instr
  | 0, [] => some .nul
  | 7, [] => some .bel
  | 10, [] => some .lf
  | 12, [] => some .cls
  | 13, [] => some .cr
  | 17, [c] => some (.colour (topBit c) (lowSeven c))
  | 18, [a, c] => some (.gcol a (topBit c) (lowSeven c))
  | 19, [l, p, r, g, b] => some (.palette l p r g b)
  | 22, [n] => some (.mode (topBit n) (lowSeven n))
  | 23, [s, p1, p2, p3, p4, p5, p6, p7, p8] => some (vdu23Refined s p1 p2 p3 p4 p5 p6 p7 p8)
  | 24, [l0, l1, b0, b1, r0, r1, t0, t1] => some (.gwindow (le16 l0 l1) (le16 b0 b1) (le16 r0 r1) (le16 t0 t1))
  | 25, [k, x0, x1, y0, y1] => some (plotRefined k (le16 x0 x1) (le16 y0 y1))
  | 28, [l0, l1, b0, b1, r0, r1, t0, t1] => some (.twindow (le16 l0 l1) (le16 b0 b1) (le16 r0 r1) (le16 t0 t1))
  | 29, [x0, x1, y0, y1] => some (.origin (le16 x0 x1) (le16 y0 y1))
  | 31, [c, r] => some (.tab c r)
  | 1, ops => some (.undef01 ops)
  | 2, ops => some (.undef02 ops)
  | 3, ops => some (.undef03 ops)
  | 4, ops => some (.undef04 ops)
  | 5, ops => some (.undef05 ops)
  | 6, ops => some (.undef06 ops)
  | 8, ops => some (.undef08 ops)
  | 9, ops => some (.undef09 ops)
  | 11, ops => some (.undef11 ops)
  | 14, ops => some (.undef14 ops)
  | 15, ops => some (.undef15 ops)
  | 16, ops => some (.undef16 ops)
  | 20, ops => some (.undef20 ops)
  | 21, ops => some (.undef21 ops)
  | 26, ops => some (.undef26 ops)
  | 27, ops => some (.undef27 ops)
  | 30, ops => some (.undef30 ops)
  | _, _ => none

/-- The command of an opcode above 31, which takes no operand (R82, R85). -/
def glyphCommand (op : Byte) : Instr :=
  if op = 127 then .del else if isUdg op then .udg op else .char op

/-- The command of an opcode and its operand bytes; none if the number of operands is not the opcode's. -/
def command (op : Byte) (ops : List Byte) : Option Instr :=
  if isControl op then controlCommand op.toNat ops
  else match ops with
    | [] => some (glyphCommand op)
    | _ :: _ => none

/-- Why a sequence of bytes is not the beginning of a stream of whole commands. -/
inductive DecodeError where
  /-- There is no opcode byte. -/
  | noOpcode
  /-- The sequence ends inside the command of this opcode, which needs this many operand bytes. -/
  | truncated (op : Byte) (needed : Nat)
deriving DecidableEq, Repr

/-- The first command of a sequence of bytes, and the bytes after it. -/
def decode (ext : CtrlExt) : List Byte → Except DecodeError (Instr × List Byte)
  | [] => .error .noOpcode
  | op :: bytes =>
    let n := operandCount ext op
    if bytes.length < n then .error (.truncated op n)
    else match command op (bytes.take n) with
      | some i => .ok (i, bytes.drop n)
      | none => .error (.truncated op n)

/-! ### The encoder -/

/-- The opcode byte of a command (R83 to R85). -/
def Instr.opcode : Instr → Byte
  | .nul => 0
  | .bel => 7
  | .lf => 10
  | .cls => 12
  | .cr => 13
  | .colour _ _ => 17
  | .gcol _ _ _ => 18
  | .palette _ _ _ _ _ => 19
  | .mode _ _ => 22
  | .vdu23 _ _ _ _ _ _ _ _ _ => 23
  | .gwindow _ _ _ _ => 24
  | .plot _ _ _ => 25
  | .twindow _ _ _ _ => 28
  | .origin _ _ => 29
  | .tab _ _ => 31
  | .char code => code
  | .del => 127
  | .udg code => code
  | .undef01 _ => 1
  | .undef02 _ => 2
  | .undef03 _ => 3
  | .undef04 _ => 4
  | .undef05 _ => 5
  | .undef06 _ => 6
  | .undef08 _ => 8
  | .undef09 _ => 9
  | .undef11 _ => 11
  | .undef14 _ => 14
  | .undef15 _ => 15
  | .undef16 _ => 16
  | .undef20 _ => 20
  | .undef21 _ => 21
  | .undef26 _ => 26
  | .undef27 _ => 27
  | .undef30 _ => 30
  | .vdu23Cursor _ _ _ _ _ _ _ _ => 23
  | .vdu23Scroll _ _ _ _ _ _ _ _ => 23
  | .vdu23Printdir _ _ _ _ _ _ _ _ => 23
  | .vdu23Tint _ _ _ _ _ _ _ _ => 23
  | .vdu23Reserved _ _ _ _ _ _ _ _ _ => 23
  | .plot00 _ _ _ _ => 25
  | .plot08 _ _ _ _ => 25
  | .plot10 _ _ _ _ => 25
  | .plot18 _ _ _ _ => 25
  | .plot20 _ _ _ _ => 25
  | .plot28 _ _ _ _ => 25
  | .plot30 _ _ _ _ => 25
  | .plot38 _ _ _ _ => 25
  | .plot40 _ _ _ _ => 25
  | .plot48 _ _ _ _ => 25
  | .plot50 _ _ _ _ => 25
  | .plot58 _ _ _ _ => 25
  | .plot60 _ _ _ _ => 25
  | .plot68 _ _ _ _ => 25
  | .plot70 _ _ _ _ => 25
  | .plot78 _ _ _ _ => 25
  | .plot80 _ _ _ _ => 25
  | .plot88 _ _ _ _ => 25
  | .plot90 _ _ _ _ => 25
  | .plot98 _ _ _ _ => 25
  | .plotA0 _ _ _ _ => 25
  | .plotA8 _ _ _ _ => 25
  | .plotB0 _ _ _ _ => 25
  | .plotB8 _ _ _ _ => 25
  | .plotC0 _ _ _ _ => 25
  | .plotC8 _ _ _ _ => 25
  | .plotD0 _ _ _ _ => 25
  | .plotD8 _ _ _ _ => 25
  | .plotE0 _ _ _ _ => 25
  | .plotE8 _ _ _ _ => 25
  | .plotF0 _ _ _ _ => 25
  | .plotF8 _ _ _ _ => 25

/-- The operand bytes of a window command: four words, low byte first (R91, R93). -/
def windowBytes (left bottom right top : S16) : List Byte :=
  [loByte left, hiByte left, loByte bottom, hiByte bottom, loByte right, hiByte right, loByte top, hiByte top]

/-- The operand bytes of a PLOT command (R92). -/
def plotBytes (k : Byte) (x y : S16) : List Byte := [k, loByte x, hiByte x, loByte y, hiByte y]

/-- The operand bytes of a command, in stream order (R86 to R95). -/
def Instr.operands : Instr → List Byte
  | .nul => []
  | .bel => []
  | .lf => []
  | .cls => []
  | .cr => []
  | .colour background c => [splitByte background c]
  | .gcol action background c => [action, splitByte background c]
  | .palette l p r g b => [l, p, r, g, b]
  | .mode shadow n => [splitByte shadow n]
  | .vdu23 sub p1 p2 p3 p4 p5 p6 p7 p8 => [sub, p1, p2, p3, p4, p5, p6, p7, p8]
  | .gwindow left bottom right top => windowBytes left bottom right top
  | .plot k x y => plotBytes k x y
  | .twindow left bottom right top => windowBytes left bottom right top
  | .origin x y => [loByte x, hiByte x, loByte y, hiByte y]
  | .tab c r => [c, r]
  | .char _ => []
  | .del => []
  | .udg _ => []
  | .undef01 ops => ops
  | .undef02 ops => ops
  | .undef03 ops => ops
  | .undef04 ops => ops
  | .undef05 ops => ops
  | .undef06 ops => ops
  | .undef08 ops => ops
  | .undef09 ops => ops
  | .undef11 ops => ops
  | .undef14 ops => ops
  | .undef15 ops => ops
  | .undef16 ops => ops
  | .undef20 ops => ops
  | .undef21 ops => ops
  | .undef26 ops => ops
  | .undef27 ops => ops
  | .undef30 ops => ops
  | .vdu23Cursor n p2 p3 p4 p5 p6 p7 p8 => [subCursor, n, p2, p3, p4, p5, p6, p7, p8]
  | .vdu23Scroll extent direction movement p4 p5 p6 p7 p8 => [subScroll, extent, direction, movement, p4, p5, p6, p7, p8]
  | .vdu23Printdir x y p3 p4 p5 p6 p7 p8 => [subPrintdir, x, y, p3, p4, p5, p6, p7, p8]
  | .vdu23Tint n v p3 p4 p5 p6 p7 p8 => [subTint, n, v, p3, p4, p5, p6, p7, p8]
  | .vdu23Reserved sub p1 p2 p3 p4 p5 p6 p7 p8 => [sub, p1, p2, p3, p4, p5, p6, p7, p8]
  | .plot00 absolute effect x y => plotBytes (plotCode 0x00 absolute effect) x y
  | .plot08 absolute effect x y => plotBytes (plotCode 0x08 absolute effect) x y
  | .plot10 absolute effect x y => plotBytes (plotCode 0x10 absolute effect) x y
  | .plot18 absolute effect x y => plotBytes (plotCode 0x18 absolute effect) x y
  | .plot20 absolute effect x y => plotBytes (plotCode 0x20 absolute effect) x y
  | .plot28 absolute effect x y => plotBytes (plotCode 0x28 absolute effect) x y
  | .plot30 absolute effect x y => plotBytes (plotCode 0x30 absolute effect) x y
  | .plot38 absolute effect x y => plotBytes (plotCode 0x38 absolute effect) x y
  | .plot40 absolute effect x y => plotBytes (plotCode 0x40 absolute effect) x y
  | .plot48 absolute effect x y => plotBytes (plotCode 0x48 absolute effect) x y
  | .plot50 absolute effect x y => plotBytes (plotCode 0x50 absolute effect) x y
  | .plot58 absolute effect x y => plotBytes (plotCode 0x58 absolute effect) x y
  | .plot60 absolute effect x y => plotBytes (plotCode 0x60 absolute effect) x y
  | .plot68 absolute effect x y => plotBytes (plotCode 0x68 absolute effect) x y
  | .plot70 absolute effect x y => plotBytes (plotCode 0x70 absolute effect) x y
  | .plot78 absolute effect x y => plotBytes (plotCode 0x78 absolute effect) x y
  | .plot80 absolute effect x y => plotBytes (plotCode 0x80 absolute effect) x y
  | .plot88 absolute effect x y => plotBytes (plotCode 0x88 absolute effect) x y
  | .plot90 absolute effect x y => plotBytes (plotCode 0x90 absolute effect) x y
  | .plot98 absolute effect x y => plotBytes (plotCode 0x98 absolute effect) x y
  | .plotA0 absolute effect x y => plotBytes (plotCode 0xA0 absolute effect) x y
  | .plotA8 absolute effect x y => plotBytes (plotCode 0xA8 absolute effect) x y
  | .plotB0 absolute effect x y => plotBytes (plotCode 0xB0 absolute effect) x y
  | .plotB8 absolute effect x y => plotBytes (plotCode 0xB8 absolute effect) x y
  | .plotC0 absolute effect x y => plotBytes (plotCode 0xC0 absolute effect) x y
  | .plotC8 absolute effect x y => plotBytes (plotCode 0xC8 absolute effect) x y
  | .plotD0 absolute effect x y => plotBytes (plotCode 0xD0 absolute effect) x y
  | .plotD8 absolute effect x y => plotBytes (plotCode 0xD8 absolute effect) x y
  | .plotE0 absolute effect x y => plotBytes (plotCode 0xE0 absolute effect) x y
  | .plotE8 absolute effect x y => plotBytes (plotCode 0xE8 absolute effect) x y
  | .plotF0 absolute effect x y => plotBytes (plotCode 0xF0 absolute effect) x y
  | .plotF8 absolute effect x y => plotBytes (plotCode 0xF8 absolute effect) x y

/-- The bytes of a command: the opcode byte, then the operand bytes (R80). -/
def encode (i : Instr) : List Byte := i.opcode :: i.operands

/-! ### The words of spec/opcode_table.json -/

/-- The bytes that a word of `nbits` bits of the opcode table stands for, followed by zero operand bytes up to the longest
command. A 16-bit row of the table has byte 0 in the HIGH half (R99); a row of one byte is that byte. The table has no
wider row; for a wider word the first byte is the least significant one. -/
def tableBytes (nbits w : Nat) : List Byte :=
  let byte (k : Nat) : Byte := BitVec.ofNat 8 (w >>> (8 * k))
  let given : List Byte :=
    if nbits = 16 then [byte 1, byte 0] else (List.range ((nbits + 7) / 8)).map byte
  (given ++ List.replicate 10 0).take 10

/-- The instruction the decoder reads from a word of the opcode table. -/
def decodeTableWord (nbits w : Nat) : Option Instr :=
  match decode defaultCtrlExt (tableBytes nbits w) with
  | .ok (i, _) => some i
  | .error _ => none

end Sys2Proof
end

