-- ==== Sys2Proof/Machine/Palette.lean ====
section
/-! DEFINITION. The palette engine: building the default palette of a depth, the 256-entry RAM that holds it, and resolving
a logical colour and a tint. Rules R160 to R167 of 42_palette_colour.md, R28 of 10_state.md. -/

namespace Sys2Proof.Machine

/-- The number of bits of a logical colour (R141). -/
def depthBits : Depth → Nat
  | .bpp1 => 1
  | .bpp2 => 2
  | .bpp4 => 4
  | .bpp8 => 8

/-- `2^bitsPerPixel`, the number of valid palette entries (R28). -/
def paletteSize (d : Depth) : Nat := 2 ^ depthBits d

-- The eight colour names (R165).
def black : Colour := ⟨0, 0, 0⟩
def red : Colour := ⟨255, 0, 0⟩
def green : Colour := ⟨0, 255, 0⟩
def yellow : Colour := ⟨255, 255, 0⟩
def blue : Colour := ⟨0, 0, 255⟩
def magenta : Colour := ⟨255, 0, 255⟩
def cyan : Colour := ⟨0, 255, 255⟩
def white : Colour := ⟨255, 255, 255⟩

/-- The eight-entry rainbow sequence (R163). -/
def rainbow : List Colour := [black, red, green, yellow, blue, magenta, cyan, white]

/-- Entry `i` of `build(8)`: each channel is 17 times a four-bit level (R164). -/
def build8 (i : Byte) : Colour :=
  { r := 17 * ((i &&& 7) ||| ((i &&& 16) >>> 1))
    g := 17 * ((i &&& 3) ||| ((i &&& 96) >>> 3))
    b := 17 * ((i &&& 3) ||| ((i &&& 8) >>> 1) ||| ((i &&& 128) >>> 4)) }

/-- `build(bpp)`: the `2^bpp` physical colours of a depth, in order (R160 to R164). -/
def build : Depth → List Colour
  | .bpp1 => [black, white]
  | .bpp2 => [black, red, yellow, white]
  | .bpp4 => rainbow ++ rainbow
  | .bpp8 => (List.range 256).map fun i => build8 (BitVec.ofNat 8 i)

/-- The palette RAM after a mode activation: the entries of `build`, and above them, where the spec leaves the contents
unspecified, those of `rest` (R28). -/
def paletteRam (d : Depth) (rest : Nat → Colour) : Vector Colour 256 :=
  Vector.ofFn fun i => (build d).getD i.val (rest i.val)

/-- The palette index of a logical colour and a tint (R166): scattered bits at 8 bpp, the logical colour modulo the palette
size below. -/
def colourIndex (d : Depth) (logical tint : Byte) : Byte :=
  match d with
  | .bpp8 => ((logical &&& 33) <<< 2) ||| ((logical &&& 14) <<< 3) ||| ((logical &&& 16) >>> 1) ||| (tint >>> 6)
  | .bpp1 => logical &&& 1
  | .bpp2 => logical &&& 3
  | .bpp4 => logical &&& 15

/-- `resolve(palette, logicalColour, tint)` (R160, R166). -/
def resolveIn (d : Depth) (palette : Vector Colour 256) (logical tint : Byte) : Colour :=
  palette.get (colourIndex d logical tint).toFin

end Sys2Proof.Machine
end

