-- ==== Sys2Proof/Machine/Activation.lean ====
section
/-! DEFINITION. The variable table and the values that a mode activation and reset write: windows, default colours and
tints. Rules R33 to R38, R43 of 10_state.md, R146, R147 of 41_screen_mode.md, R340 of 70_reset_and_hazards.md. -/

namespace Sys2Proof.Machine

/-- The variable table `V`: named slots, no addresses (R33 to R38, R63). `V.char_spacing` (R39) is unspecified at all
times, so it is no slot here but a free value: `charSpacing`. -/
structure VarTable where
  textFg : Logical
  textBg : Logical
  gfxFg : Logical
  gfxBg : Logical
  gfxFgAction : Byte
  gfxBgAction : Byte
  tintTextFg : Byte
  tintTextBg : Byte
  tintGfxFg : Byte
  tintGfxBg : Byte
  gwin : Window
  twin : Window
  cursorAppearance : Byte
deriving DecidableEq, Repr

/-- `WHITE(bpp)` (R147). -/
def whiteLogical : Depth → Logical
  | .bpp1 => 1
  | .bpp2 => 3
  | .bpp4 => 7
  | .bpp8 => 63

/-- `max(n, 1) − 1` of a dimension, as a coordinate (R36, R37). -/
def lastIndex (n : BitVec 15) : S16 := BitVec.ofNat 16 (max n.toNat 1 - 1)

/-- The text window that covers the whole text screen (R37, R146). -/
def fullTextWindow (d : ModeDesc) : Window :=
  { left := 0, bottom := lastIndex d.textHeight, right := lastIndex d.textWidth, top := 0 }

/-- The graphics window that covers the whole unit area (R36, R146). -/
def fullGraphicsWindow (d : ModeDesc) : Window :=
  { left := 0, bottom := 0, right := lastIndex d.unitWidth, top := lastIndex d.unitHeight }

/-- The default tint of a foreground (R35, R146). -/
def foregroundTint : Byte := 0xC0

/-- The variable table after a mode activation: every slot but the cursor appearance, which keeps its value (R43, R146). -/
def activatedVars (d : ModeDesc) (cursorAppearance : Byte) : VarTable :=
  { textFg := whiteLogical d.bitsPerPixel, textBg := 0
    gfxFg := whiteLogical d.bitsPerPixel, gfxBg := 0
    gfxFgAction := 0, gfxBgAction := 0
    tintTextFg := foregroundTint, tintTextBg := 0
    tintGfxFg := foregroundTint, tintGfxBg := 0
    gwin := fullGraphicsWindow d, twin := fullTextWindow d
    cursorAppearance := cursorAppearance }

/-- The reset value of `flags` (R32, R340). -/
def resetFlags : Byte := 0

/-- The reset value of `V.cursor_appearance` (R38, R340). -/
def resetCursorAppearance : Byte := 1

/-- What the operand buffer holds at reset: the spec leaves it unspecified (R24, R340) and the model names zero. -/
def resetOpbuf : Vector Byte 9 := Vector.replicate 9 0

/-- What the palette entries at and above `2^bitsPerPixel` hold at reset: the spec leaves them unspecified (R28) and the
model names black. -/
def resetPaletteRest : Nat → Colour := fun _ => black

end Sys2Proof.Machine
end

