-- ==== Sys2Proof/Machine/Flags.lean ====
section
/-! DEFINITION. The text-direction flag register: its decoder, and the axes, signs and window edges that the text-cursor
rules take from it. It is the only flag register of the hardware; there are no condition codes (R32). Rules R190 to R196
of 43_cursor_text.md. -/

namespace Sys2Proof.Machine

/-- A component of a movement vector: −1, 0 or +1 (R9). -/
inductive Dir where
  | minus | zero | plus
deriving DecidableEq, Repr

/-- A movement vector `(dx, dy)` (R9, R190): `dx` acts on the column, `dy` on the row. -/
structure Vec where
  dx : Dir
  dy : Dir
deriving DecidableEq, Repr

/-- A sign of movement (R191). -/
inductive Sign where
  | plus | minus
deriving DecidableEq, Repr

/-- The opposite sign. -/
def Sign.opposite : Sign → Sign
  | .plus => .minus
  | .minus => .plus

/-- The step `+1` or `−1` as a coordinate; adding it wraps (`wrap16`). -/
def Sign.step : Sign → S16
  | .plus => 1
  | .minus => -1

/-- The sign times the movement multiplier, which is 0 or 1 (R191). -/
def Sign.times (s : Sign) (moving : Bool) : Dir :=
  match moving, s with
  | false, _ => .zero
  | true, .plus => .plus
  | true, .minus => .minus

/-- What `decodeFlags` derives from the register; nothing of it is stored (R190). -/
structure MovementVectors where
  adv : Vec
  eol : Vec
  suppressMovement : Bool
  suppressWrapInGraphics : Bool
deriving DecidableEq, Repr

/-- Bit 3, transpose (R191). -/
def transposed (f : Byte) : Bool := f.getLsbD 3

/-- Bit 5 clear: the movement multiplier is 1 (R191). -/
def moving (f : Byte) : Bool := !f.getLsbD 5

/-- The bit that signs the normal advance, `1 << (1 + t)` (R191). -/
def xbit (f : Byte) : Byte := 1 <<< (1 + (transposed f).toNat)

/-- The bit that signs the end-of-line movement, `1 << (2 - t)` (R191). -/
def ybit (f : Byte) : Byte := 1 <<< (2 - (transposed f).toNat)

/-- `xs`: the sign of the normal advance (R191). -/
def advSign (f : Byte) : Sign := if f &&& xbit f ≠ 0 then .minus else .plus

/-- `ys`: the sign of the end-of-line movement (R191). -/
def eolSign (f : Byte) : Sign := if f &&& ybit f ≠ 0 then .minus else .plus

/-- Swap the two components. -/
def Vec.swap (v : Vec) : Vec := ⟨v.dy, v.dx⟩

/-- `decodeFlags(f)` (R191): the vectors are computed along the untransposed axes, and swapped only afterwards. -/
def decodeFlags (f : Byte) : MovementVectors :=
  let adv : Vec := ⟨(advSign f).times (moving f), .zero⟩
  let eol : Vec := ⟨.zero, (eolSign f).times (moving f)⟩
  { adv := if transposed f then adv.swap else adv
    eol := if transposed f then eol.swap else eol
    suppressMovement := f.getLsbD 5
    suppressWrapInGraphics := f.getLsbD 6 }

/-- The two axes of the text screen (R196). -/
inductive Axis where
  | col | row
deriving DecidableEq, Repr

/-- The advance axis `A` (R196). -/
def advAxis (f : Byte) : Axis := if transposed f then .row else .col

/-- The line axis `E`, the other one (R196). -/
def lineAxis (f : Byte) : Axis := if transposed f then .col else .row

/-- `pos[X]` (R196). -/
def cellPos (c : Cell) : Axis → S16
  | .col => c.col
  | .row => c.row

/-- `pos[X] <- v` (R196). -/
def cellSet (c : Cell) (v : S16) : Axis → Cell
  | .col => { c with col := v }
  | .row => { c with row := v }

/-- `lo(X)` of the text window (R196). -/
def winLo (w : Window) : Axis → S16
  | .col => w.left
  | .row => w.top

/-- `hi(X)` of the text window (R196). -/
def winHi (w : Window) : Axis → S16
  | .col => w.right
  | .row => w.bottom

/-- `start(X, s)` (R196). -/
def winStart (w : Window) (a : Axis) : Sign → S16
  | .plus => winLo w a
  | .minus => winHi w a

/-- `end(X, s)` (R196). -/
def winEnd (w : Window) (a : Axis) : Sign → S16
  | .plus => winHi w a
  | .minus => winLo w a

/-- `beyond(X, s, v)`, a signed comparison (R196). -/
def beyond (w : Window) (a : Axis) (s : Sign) (v : S16) : Bool :=
  match s with
  | .plus => (winHi w a).slt v
  | .minus => v.slt (winLo w a)

end Sys2Proof.Machine
end

