-- ==== Sys2Proof/Machine/Events.lean ====
section
/-! DEFINITION. What the block puts on its output ports and what `feed` returns: the requests of the renderer, text-output
and font-provider ports, the three signals, and the result of a `feed`. Rules R44 to R50 of 10_state.md, R310, R311 of
60_exceptions.md. Emissions are never read back by the block. -/

namespace Sys2Proof.Machine

/-- The effect a drawing request carries (R47). -/
inductive DrawEffect where
  | foreground | inverse | background
deriving DecidableEq, Repr

/-- Requests on the renderer port `REN` (R47). -/
inductive RenRequest where
  | drawLine (p0 p1 : Point) (variant : BitVec 3) (effect : DrawEffect) (action : Byte) (colour : Option Colour)
  | drawPoint (p : Point) (effect : DrawEffect) (action : Byte) (colour : Option Colour)
  | fillTriangle (p0 p1 p2 : Point) (effect : DrawEffect) (action : Byte) (colour : Option Colour)
  | fillRectangle (p0 p1 : Point) (effect : DrawEffect) (action : Byte) (colour : Option Colour)
  | drawCircle (centre edge : Point) (effect : DrawEffect) (action : Byte) (colour : Option Colour)
  | fillCircle (centre edge : Point) (effect : DrawEffect) (action : Byte) (colour : Option Colour)
  /-- Never emitted (R47, D26); the spec gives it no operand list. -/
  | blitGlyph
  | present
  | modeChanged (descriptor : ModeDesc) (shadow : Bool)
  | scrollBlock (extent direction movement : Byte)
deriving DecidableEq, Repr

/-- Requests on the text-output port `TXT` (R48). -/
inductive TxtRequest where
  | putChar (code : Byte) (column row : S16)
  | bell
  | clearText
  | deleteChar (column row : S16)
  | scrollRequest (v : Vec)
deriving DecidableEq, Repr

/-- Requests on the font-provider port `FNT`; none is ever emitted (R49, D26). -/
inductive FntRequest where
  | glyphBitmap (code : Byte)
deriving DecidableEq, Repr

/-- The three signals, the hardware's only exceptions (R50, R310). -/
inductive Signal where
  | protocolError (opcode : Byte) (sub : Option Byte)
  | noSuchScreenMode (number : ModeNumber)
  | unsupportedOperation (opcode : Byte) (code : Option Byte)
deriving DecidableEq, Repr

/-- One emission of a step, on one of the four output ports. -/
inductive Event where
  | ren (r : RenRequest)
  | txt (r : TxtRequest)
  | fnt (r : FntRequest)
  | sig (g : Signal)
deriving DecidableEq, Repr

/-- The emission is a request on `REN` or `TXT`, the two ports that R71 counts. -/
def Event.isRequest : Event → Bool
  | .ren _ => true
  | .txt _ => true
  | .fnt _ => false
  | .sig _ => false

/-- The emission is a signal. -/
def Event.isSignal : Event → Bool
  | .sig _ => true
  | _ => false

/-- The outcome of a handler (R45). -/
inductive CmdOutcome where
  | handled | unsupported | noSuchMode | badSubCode
deriving DecidableEq, Repr

/-- What one `feed` returns (R45, R113). -/
inductive FeedResult where
  | buffered
  | completed (op : Byte) (operands : List Byte) (outcome : CmdOutcome)
  | rejected (b : Byte)
deriving DecidableEq, Repr

/-- What the host may do between two steps (R17, R44): feed a byte, enqueue a sequence of bytes, cancel, reset. -/
inductive HostOp where
  | feed (b : Byte)
  | enqueue (bytes : List Byte)
  | cancel
  | reset
deriving DecidableEq, Repr

end Sys2Proof.Machine
end

