-- ==== Sys2Proof/Machine/Motion.lean ====
section
/-! DEFINITION. Text-cursor motion, as functions of the flag register, the text window and the cursor: home, carriage
return, one line step, one advance, one back step. Rules R196 to R200, R214 of 43_cursor_text.md. -/

namespace Sys2Proof.Machine

/-- Where the text cursor comes to stand, and what the motion emits. -/
structure Motion where
  cell : Cell
  events : List Event
deriving DecidableEq, Repr

/-- `Home()` (R198): the start edge of both axes, whatever the multiplier. -/
def homeCell (f : Byte) (w : Window) : Cell :=
  let a := cellSet ⟨0, 0⟩ (winStart w (advAxis f) (advSign f)) (advAxis f)
  cellSet a (winStart w (lineAxis f) (eolSign f)) (lineAxis f)

/-- Carriage return (R214): the start edge of the advance axis, whatever the multiplier. -/
def carriageReturn (f : Byte) (w : Window) (c : Cell) : Cell :=
  cellSet c (winStart w (advAxis f) (advSign f)) (advAxis f)

/-- `LineStep()` (R197): one step along the line axis; past the last line, stay there and ask for a scroll. -/
def lineStep (f : Byte) (w : Window) (c : Cell) : Motion :=
  if moving f then
    let e := cellPos c (lineAxis f) + (eolSign f).step
    if beyond w (lineAxis f) (eolSign f) e then
      { cell := cellSet c (winEnd w (lineAxis f) (eolSign f)) (lineAxis f)
        events := [.txt (.scrollRequest (decodeFlags f).eol)] }
    else { cell := cellSet c e (lineAxis f), events := [] }
  else { cell := c, events := [] }

/-- `AdvanceAfterPrint()` (R199): one step along the advance axis; past the window, its start edge and a line step. -/
def advanceAfterPrint (f : Byte) (w : Window) (c : Cell) : Motion :=
  if moving f then
    let a := cellPos c (advAxis f) + (advSign f).step
    if beyond w (advAxis f) (advSign f) a then
      lineStep f w (cellSet c (winStart w (advAxis f) (advSign f)) (advAxis f))
    else { cell := cellSet c a (advAxis f), events := [] }
  else { cell := c, events := [] }

/-- `BackStep()` (R200): one step back along the advance axis; before the start of a line, the end of the line before it;
before the first line, no move. -/
def backStep (f : Byte) (w : Window) (c : Cell) : Cell :=
  if moving f then
    let a := cellPos c (advAxis f) - (advSign f).step
    if beyond w (advAxis f) (advSign f).opposite a then
      let e := cellPos c (lineAxis f) - (eolSign f).step
      if beyond w (lineAxis f) (eolSign f).opposite e then c
      else cellSet (cellSet c (winEnd w (advAxis f) (advSign f)) (advAxis f)) e (lineAxis f)
    else cellSet c a (advAxis f)
  else c

end Sys2Proof.Machine
end

