-- ==== Sys2Proof/Machine/State.lean ====
section
/-! DEFINITION. The state of one session (R20 to R39 of 10_state.md), the reasons a step can stop, and the state after
reset (R340 of 70_reset_and_hazards.md). -/

namespace Sys2Proof.Machine

/-- What the decoder waits for (R21). -/
inductive Stage where
  | opcode | operand
deriving DecidableEq, Repr

/-- The state of one session. The last five fields are the MODEL's own: the configuration the session runs with, what
the host has still to do, what an observer has recorded so far, and the counter that the free values are taken from. -/
structure State where
  /-- `stage` (R21). -/
  stage : Stage
  /-- `req`, the number of bytes the pending handler consumes (R22). -/
  req : BitVec 4
  /-- `cur_op`, the opcode whose operands are being collected (R23). -/
  curOp : Byte
  /-- `cnt`, the number of operand bytes held (R24). -/
  cnt : BitVec 4
  /-- `opbuf[0..8]` (R24). -/
  opbuf : Vector Byte 9
  /-- `mode`, the latched descriptor of the active screen mode (R27). -/
  mode : ModeDesc
  /-- `mode_shadow` (R27). -/
  modeShadow : Bool
  /-- `palette[0..255]` (R28). -/
  palette : Vector Colour 256
  /-- `gc_cur` (R29). -/
  gcCur : Point
  /-- `gc_old` (R29). -/
  gcOld : Point
  /-- `gc_oldest` (R29). -/
  gcOldest : Point
  /-- `origin` (R30). -/
  origin : Point
  /-- `text_col` and `text_row`, as one cell (R31). -/
  text : Cell
  /-- `flags`, the text-direction flags (R32). -/
  flags : Byte
  /-- `V`, the variable table (R33 to R38). -/
  v : VarTable
  /-- MODEL: the parameters of R5; no step writes them. -/
  params : Params
  /-- MODEL: the input stream and the other moves of the host, in order (R44, R60). -/
  input : List HostOp
  /-- MODEL: the requests and signals emitted so far, oldest first (R11, R44). -/
  out : List Event
  /-- MODEL: the values returned to the host so far, oldest first (R45, R124). -/
  results : List FeedResult
  /-- MODEL: the number of commands that have run; the free values are read at it. -/
  tick : Nat
deriving DecidableEq, Repr

/-- The reasons the machine stops with a fault: none. "A model of this hardware has no fault state and no stuck state of
the hardware's own" (R317); every error is a signal, after which the machine goes on. -/
inductive Fault where
deriving DecidableEq, Repr

/-- The reasons the model gives no meaning to a step. -/
inductive Refusal where
  /-- Raised by the dispatch for an instruction without a meaning yet; no arm raises it. Safe. -/
  | notModelled (mnemonic : String)
  /-- Raised when a handler is due and `cur_op`, `req` do not agree with the control table, which the invariant of R25
  excludes: `feed` is defined for the states that satisfy it (R111). No run from reset comes to it. Safe. -/
  | decoderOutOfStep
deriving DecidableEq, Repr

/-- The machine right after reset, created with the given parameters (R43, R340). -/
def State.resetWith (p : Params) : State :=
  { stage := .opcode, req := 1, curOp := 0, cnt := 0, opbuf := resetOpbuf
    mode := p.resetMode, modeShadow := false
    palette := paletteRam p.resetMode.bitsPerPixel resetPaletteRest
    gcCur := Point.zero, gcOld := Point.zero, gcOldest := Point.zero, origin := Point.zero
    text := homeCell resetFlags (fullTextWindow p.resetMode)
    flags := resetFlags
    v := activatedVars p.resetMode resetCursorAppearance
    params := p, input := [], out := [], results := [], tick := 0 }

/-- The parameters of the hardware: the mode table and the reset mode stay open, `CTRL_EXT` is empty (R5). -/
def hardwareParams : Params :=
  { resetMode := Config.resetMode, otherModes := Config.otherModes, ctrlExt := defaultCtrlExt }

/-- The machine right after reset (R340). -/
def State.reset : State := State.resetWith hardwareParams

end Sys2Proof.Machine
end

