-- ==== Sys2Proof/Machine/Ops.lean ====
section
/-! DEFINITION. The named operations over the state: the decoder's registers, the operand buffer, the cursors, the variable
table, mode activation, mode lookup; how a handler's reply becomes the next state; and raising a signal, which is all the
hardware has of an exception. -/

namespace Sys2Proof.Machine

/-- The outcome type of the machine. -/
abbrev Result := Host.Outcome State Fault Refusal

/-! ### Decoder registers -/

/-- `stage <- OPCODE ; req <- 1 ; cnt <- 0`: what `cancel` does, and what `feed` does before a handler runs (R112, R125). -/
def State.toOpcode (s : State) : State := { s with stage := .opcode, req := 1, cnt := 0 }

/-- `cur_op <- b ; stage <- OPERAND ; req <- n ; cnt <- 0` (R114). -/
def State.latch (s : State) (b : Byte) (n : Nat) : State :=
  { s with stage := .operand, req := BitVec.ofNat 4 n, curOp := b, cnt := 0 }

/-- `opbuf[cnt] <- b ; cnt <- cnt + 1` (R64, R112). -/
def State.storeOperand (s : State) (b : Byte) : State :=
  { s with opbuf := s.opbuf.setIfInBounds s.cnt.toNat b, cnt := s.cnt + 1 }

/-- `opbuf[0 .. n-1]`, oldest first (R64, R112). -/
def State.heldOperands (s : State) (n : Nat) : List Byte := s.opbuf.toList.take n

/-! ### Cursors, flags and the variable table -/

/-- Place the text cursor (R31). -/
def State.setText (s : State) (c : Cell) : State := { s with text := c }

/-- `recordPlot(p)` (R231): a simultaneous shift of the history. -/
def State.recordPlot (s : State) (p : Point) : State :=
  { s with gcOldest := s.gcOld, gcOld := s.gcCur, gcCur := p }

/-- Write both fields of the origin (R266). -/
def State.setOrigin (s : State) (p : Point) : State := { s with origin := p }

/-- Write the text-direction flags (R286). -/
def State.setFlags (s : State) (f : Byte) : State := { s with flags := f }

/-- Write the variable table (R62): a handler changes the slots it names and leaves the others. -/
def State.setVars (s : State) (v : VarTable) : State := { s with v := v }

/-! ### Screen mode -/

/-- The result of a mode lookup (R143). -/
inductive ModeLookup where
  | found (d : ModeDesc)
  | noSuchMode (m : ModeNumber)
deriving DecidableEq, Repr

/-- `MODE_TABLE[m]` (R142). -/
def modeEntry (p : Params) (m : ModeNumber) : Option ModeDesc :=
  (p.resetMode :: p.otherModes).find? fun d => d.id == m

/-- The lookup of a masked mode number (R143). -/
def lookupMode (p : Params) (m : ModeNumber) : ModeLookup :=
  match modeEntry p m with
  | some d => .found d
  | none => .noSuchMode m

/-- `resolveMode(n)` (R143): the number is masked to its low seven bits first. -/
def resolveMode (p : Params) (n : Byte) : ModeLookup := lookupMode p (lowSeven n)

/-- `ActivateMode(d, s)` (R146). The palette entries that the spec leaves unspecified become free values. -/
def State.activateMode (s : State) (d : ModeDesc) (shadow : Bool) : State :=
  { s with
    mode := d, modeShadow := shadow
    palette := paletteRam d.bitsPerPixel (Config.unspecifiedColour s.tick)
    gcCur := Point.zero, gcOld := Point.zero, gcOldest := Point.zero, origin := Point.zero
    text := homeCell s.flags (fullTextWindow d)
    v := activatedVars d s.v.cursorAppearance }

/-- `resolveColour(logical, tint)` in the active mode (R166). -/
def State.resolveColour (s : State) (logical tint : Byte) : Colour :=
  resolveIn s.mode.bitsPerPixel s.palette logical tint

/-! ### Handlers -/

/-- What a handler leaves: the state it wrote, what it emitted, in order, and its outcome (R118, R123). -/
structure Reply where
  state : State
  events : List Event
  outcome : CmdOutcome
deriving DecidableEq, Repr

/-- A handler that did its work. -/
def handled (s : State) (events : List Event) : Reply := { state := s, events := events, outcome := .handled }

/-- RAISING A SIGNAL (R310, R315). It is the whole of an exception here: the signal stands on its port, in program order
with the other emissions, and the outcome says so; no state is saved, no mode switched, nothing masked, no handler
entered. There is no return from one (R316): the decoder is already back in stage `OPCODE`, and goes on. -/
def raise (s : State) (g : Signal) (outcome : CmdOutcome) : Reply :=
  { state := s, events := [.sig g], outcome := outcome }

/-- `PresentIfNeeded()` (R71): one `Present` if the handler emitted a request on `REN` or `TXT`. -/
def presentIfNeeded (events : List Event) : List Event :=
  if events.any Event.isRequest then [.ren .present] else []

/-- The `Completed` result of a command (R45). -/
def completedResult (i : Instr) (outcome : CmdOutcome) : FeedResult := .completed i.opcode i.operands outcome

/-- The state after a command has run (R113, R123): what its handler emitted, then `Present` if it is due, then the
result. -/
def finished (i : Instr) (r : Reply) : State :=
  { r.state with
    out := r.state.out ++ r.events ++ presentIfNeeded r.events
    results := r.state.results ++ [completedResult i r.outcome]
    tick := r.state.tick + 1 }

/-- A command has run: the machine goes on, whatever the outcome (R317). -/
def finish (i : Instr) (r : Reply) : Result := .next (finished i r)

/-- The state after a byte with no table entry was discarded (R119, R300): the signal, the result, and nothing else. -/
def rejected (b : Byte) (s : State) : State :=
  { s with
    out := s.out ++ [.sig (.protocolError b none)]
    results := s.results ++ [.rejected b] }

end Sys2Proof.Machine
end

