-- ==== Sys2Proof/Machine/ColourCommands.lean ====
section
/-! DEFINITION. The colour commands: COLOUR, GCOL, PALETTE. Rules R170, R172, R174 of 42_palette_colour.md. -/

namespace Sys2Proof.Machine

/-- COLOUR (R170): the seven bits are stored unreduced. -/
def execColour (background : Bool) (c : Logical) (s : State) : Result :=
  finish (.colour background c)
    (handled (s.setVars (if background then { s.v with textBg := c } else { s.v with textFg := c })) [])

/-- GCOL (R172): the colour and the action of one side. -/
def execGcol (action : Byte) (background : Bool) (c : Logical) (s : State) : Result :=
  finish (.gcol action background c)
    (handled (s.setVars
      (if background then { s.v with gfxBg := c, gfxBgAction := action }
       else { s.v with gfxFg := c, gfxFgAction := action })) [])

/-- PALETTE (R174): its operands are consumed, the palette is not written, and `UnsupportedOperation` is raised. -/
def execPalette (l p r g b : Byte) (s : State) : Result :=
  finish (.palette l p r g b) (raise s (.unsupportedOperation 19 none) .unsupported)

end Sys2Proof.Machine
end

