-- ==== Sys2Proof/Machine/Mode.lean ====
section
/-! DEFINITION. MODE. Rules R146 to R149 of 41_screen_mode.md. -/

namespace Sys2Proof.Machine

/-- `Handler_MODE` (R148): a mapped number is activated and announced; an unmapped one changes nothing (R149). -/
def modeReply (shadow : Bool) (n : ModeNumber) (s : State) : Reply :=
  match lookupMode s.params n with
  | .noSuchMode m => raise s (.noSuchScreenMode m) .noSuchMode
  | .found d => handled (s.activateMode d shadow) [.ren (.modeChanged d shadow)]

/-- MODE (R148). -/
def execMode (shadow : Bool) (n : ModeNumber) (s : State) : Result :=
  finish (.mode shadow n) (modeReply shadow n s)

end Sys2Proof.Machine
end

