-- ==== Sys2Proof/Machine/Plot.lean ====
section
/-! DEFINITION. PLOT: the new point, the history, the primitive table, the colour and the request. Rules R230 to R242 of
44_plot.md. -/

namespace Sys2Proof.Machine

/-- `NewPoint(absolute, x, y)` (R236): the sum of a relative point wraps; the origin is not added. -/
def newPoint (absolute : Bool) (x y : S16) (cur : Point) : Point :=
  if absolute then ⟨x, y⟩ else ⟨cur.x + x, cur.y + y⟩

/-- The request kinds that PLOT can lead to (R240). -/
inductive Primitive where
  | line (variant : BitVec 3)
  | point
  | fillTriangle
  | fillRectangle
  | circle
  | fillCircle
deriving DecidableEq, Repr

/-- `PRIMITIVE_TABLE` (R240): none is `Unsupported`. -/
def primitiveTable (code : Byte) : Option Primitive :=
  match code.toNat with
  | 0x00 => some (.line 0)
  | 0x08 => some (.line 1)
  | 0x10 => some (.line 2)
  | 0x18 => some (.line 3)
  | 0x20 => some (.line 4)
  | 0x28 => some (.line 5)
  | 0x30 => some (.line 6)
  | 0x38 => some (.line 7)
  | 0x40 => some .point
  | 0x50 => some .fillTriangle
  | 0x60 => some .fillRectangle
  | 0x90 => some .circle
  | 0x98 => some .fillCircle
  | _ => none

/-- `PlotColour(effect)` (R237): the resolved colour and the action of the side drawn with; Inverse has no colour. -/
def plotColour (s : State) : DrawEffect → Option Colour × Byte
  | .foreground => (some (s.resolveColour (s.v.gfxFg.setWidth 8) s.v.tintGfxFg), s.v.gfxFgAction)
  | .background => (some (s.resolveColour (s.v.gfxBg.setWidth 8) s.v.tintGfxBg), s.v.gfxBgAction)
  | .inverse => (none, s.v.gfxFgAction)

/-- The request of a primitive, with the points of R239 taken from the history after the shift. -/
def drawRequest (s : State) (prim : Primitive) (e : DrawEffect) (action : Byte) (colour : Option Colour) : RenRequest :=
  match prim with
  | .line variant => .drawLine s.gcOld s.gcCur variant e action colour
  | .point => .drawPoint s.gcCur e action colour
  | .fillTriangle => .fillTriangle s.gcOldest s.gcOld s.gcCur e action colour
  | .fillRectangle => .fillRectangle s.gcOld s.gcCur e action colour
  | .circle => .drawCircle s.gcOld s.gcCur e action colour
  | .fillCircle => .fillCircle s.gcOld s.gcCur e action colour

/-- The drawing half of PLOT, after the history has shifted (R234, R238). -/
def drawReply (code : Byte) (e : DrawEffect) (s : State) : Reply :=
  match primitiveTable code with
  | none => raise s (.unsupportedOperation 25 (some code)) .unsupported
  | some prim => handled s [.ren (drawRequest s prim e (plotColour s e).2 (plotColour s e).1)]

/-- `Handler_PLOT` (R234): the history shifts whatever the command draws (R233); Move draws nothing (R241). -/
def plotReply (code : Byte) (absolute : Bool) (effect : PlotEffect) (x y : S16) (s : State) : Reply :=
  let t := s.recordPlot (newPoint absolute x y s.gcCur)
  match effect with
  | .move => handled t []
  | .foreground => drawReply code .foreground t
  | .inverse => drawReply code .inverse t
  | .background => drawReply code .background t

/-- PLOT as a whole (R234). -/
def execPlot (k : Byte) (x y : S16) (s : State) : Result :=
  finish (.plot k x y) (plotReply (plotPrimitive k) (plotAbsolute k) (plotEffect k) x y s)

/-- PLOT with primitive code 0x00 (R234, R240). -/
def execPlot00 (absolute : Bool) (effect : PlotEffect) (x y : S16) (s : State) : Result :=
  finish (.plot00 absolute effect x y) (plotReply 0x00 absolute effect x y s)

/-- PLOT with primitive code 0x08 (R234, R240). -/
def execPlot08 (absolute : Bool) (effect : PlotEffect) (x y : S16) (s : State) : Result :=
  finish (.plot08 absolute effect x y) (plotReply 0x08 absolute effect x y s)

/-- PLOT with primitive code 0x10 (R234, R240). -/
def execPlot10 (absolute : Bool) (effect : PlotEffect) (x y : S16) (s : State) : Result :=
  finish (.plot10 absolute effect x y) (plotReply 0x10 absolute effect x y s)

/-- PLOT with primitive code 0x18 (R234, R240). -/
def execPlot18 (absolute : Bool) (effect : PlotEffect) (x y : S16) (s : State) : Result :=
  finish (.plot18 absolute effect x y) (plotReply 0x18 absolute effect x y s)

/-- PLOT with primitive code 0x20 (R234, R240). -/
def execPlot20 (absolute : Bool) (effect : PlotEffect) (x y : S16) (s : State) : Result :=
  finish (.plot20 absolute effect x y) (plotReply 0x20 absolute effect x y s)

/-- PLOT with primitive code 0x28 (R234, R240). -/
def execPlot28 (absolute : Bool) (effect : PlotEffect) (x y : S16) (s : State) : Result :=
  finish (.plot28 absolute effect x y) (plotReply 0x28 absolute effect x y s)

/-- PLOT with primitive code 0x30 (R234, R240). -/
def execPlot30 (absolute : Bool) (effect : PlotEffect) (x y : S16) (s : State) : Result :=
  finish (.plot30 absolute effect x y) (plotReply 0x30 absolute effect x y s)

/-- PLOT with primitive code 0x38 (R234, R240). -/
def execPlot38 (absolute : Bool) (effect : PlotEffect) (x y : S16) (s : State) : Result :=
  finish (.plot38 absolute effect x y) (plotReply 0x38 absolute effect x y s)

/-- PLOT with primitive code 0x40 (R234, R240). -/
def execPlot40 (absolute : Bool) (effect : PlotEffect) (x y : S16) (s : State) : Result :=
  finish (.plot40 absolute effect x y) (plotReply 0x40 absolute effect x y s)

/-- PLOT with primitive code 0x48 (R234, R240). -/
def execPlot48 (absolute : Bool) (effect : PlotEffect) (x y : S16) (s : State) : Result :=
  finish (.plot48 absolute effect x y) (plotReply 0x48 absolute effect x y s)

/-- PLOT with primitive code 0x50 (R234, R240). -/
def execPlot50 (absolute : Bool) (effect : PlotEffect) (x y : S16) (s : State) : Result :=
  finish (.plot50 absolute effect x y) (plotReply 0x50 absolute effect x y s)

/-- PLOT with primitive code 0x58 (R234, R240). -/
def execPlot58 (absolute : Bool) (effect : PlotEffect) (x y : S16) (s : State) : Result :=
  finish (.plot58 absolute effect x y) (plotReply 0x58 absolute effect x y s)

/-- PLOT with primitive code 0x60 (R234, R240). -/
def execPlot60 (absolute : Bool) (effect : PlotEffect) (x y : S16) (s : State) : Result :=
  finish (.plot60 absolute effect x y) (plotReply 0x60 absolute effect x y s)

/-- PLOT with primitive code 0x68 (R234, R240). -/
def execPlot68 (absolute : Bool) (effect : PlotEffect) (x y : S16) (s : State) : Result :=
  finish (.plot68 absolute effect x y) (plotReply 0x68 absolute effect x y s)

/-- PLOT with primitive code 0x70 (R234, R240). -/
def execPlot70 (absolute : Bool) (effect : PlotEffect) (x y : S16) (s : State) : Result :=
  finish (.plot70 absolute effect x y) (plotReply 0x70 absolute effect x y s)

/-- PLOT with primitive code 0x78 (R234, R240). -/
def execPlot78 (absolute : Bool) (effect : PlotEffect) (x y : S16) (s : State) : Result :=
  finish (.plot78 absolute effect x y) (plotReply 0x78 absolute effect x y s)

/-- PLOT with primitive code 0x80 (R234, R240). -/
def execPlot80 (absolute : Bool) (effect : PlotEffect) (x y : S16) (s : State) : Result :=
  finish (.plot80 absolute effect x y) (plotReply 0x80 absolute effect x y s)

/-- PLOT with primitive code 0x88 (R234, R240). -/
def execPlot88 (absolute : Bool) (effect : PlotEffect) (x y : S16) (s : State) : Result :=
  finish (.plot88 absolute effect x y) (plotReply 0x88 absolute effect x y s)

/-- PLOT with primitive code 0x90 (R234, R240). -/
def execPlot90 (absolute : Bool) (effect : PlotEffect) (x y : S16) (s : State) : Result :=
  finish (.plot90 absolute effect x y) (plotReply 0x90 absolute effect x y s)

/-- PLOT with primitive code 0x98 (R234, R240). -/
def execPlot98 (absolute : Bool) (effect : PlotEffect) (x y : S16) (s : State) : Result :=
  finish (.plot98 absolute effect x y) (plotReply 0x98 absolute effect x y s)

/-- PLOT with primitive code 0xA0 (R234, R240). -/
def execPlotA0 (absolute : Bool) (effect : PlotEffect) (x y : S16) (s : State) : Result :=
  finish (.plotA0 absolute effect x y) (plotReply 0xA0 absolute effect x y s)

/-- PLOT with primitive code 0xA8 (R234, R240). -/
def execPlotA8 (absolute : Bool) (effect : PlotEffect) (x y : S16) (s : State) : Result :=
  finish (.plotA8 absolute effect x y) (plotReply 0xA8 absolute effect x y s)

/-- PLOT with primitive code 0xB0 (R234, R240). -/
def execPlotB0 (absolute : Bool) (effect : PlotEffect) (x y : S16) (s : State) : Result :=
  finish (.plotB0 absolute effect x y) (plotReply 0xB0 absolute effect x y s)

/-- PLOT with primitive code 0xB8 (R234, R240). -/
def execPlotB8 (absolute : Bool) (effect : PlotEffect) (x y : S16) (s : State) : Result :=
  finish (.plotB8 absolute effect x y) (plotReply 0xB8 absolute effect x y s)

/-- PLOT with primitive code 0xC0 (R234, R240). -/
def execPlotC0 (absolute : Bool) (effect : PlotEffect) (x y : S16) (s : State) : Result :=
  finish (.plotC0 absolute effect x y) (plotReply 0xC0 absolute effect x y s)

/-- PLOT with primitive code 0xC8 (R234, R240). -/
def execPlotC8 (absolute : Bool) (effect : PlotEffect) (x y : S16) (s : State) : Result :=
  finish (.plotC8 absolute effect x y) (plotReply 0xC8 absolute effect x y s)

/-- PLOT with primitive code 0xD0 (R234, R240). -/
def execPlotD0 (absolute : Bool) (effect : PlotEffect) (x y : S16) (s : State) : Result :=
  finish (.plotD0 absolute effect x y) (plotReply 0xD0 absolute effect x y s)

/-- PLOT with primitive code 0xD8 (R234, R240). -/
def execPlotD8 (absolute : Bool) (effect : PlotEffect) (x y : S16) (s : State) : Result :=
  finish (.plotD8 absolute effect x y) (plotReply 0xD8 absolute effect x y s)

/-- PLOT with primitive code 0xE0 (R234, R240). -/
def execPlotE0 (absolute : Bool) (effect : PlotEffect) (x y : S16) (s : State) : Result :=
  finish (.plotE0 absolute effect x y) (plotReply 0xE0 absolute effect x y s)

/-- PLOT with primitive code 0xE8 (R234, R240). -/
def execPlotE8 (absolute : Bool) (effect : PlotEffect) (x y : S16) (s : State) : Result :=
  finish (.plotE8 absolute effect x y) (plotReply 0xE8 absolute effect x y s)

/-- PLOT with primitive code 0xF0 (R234, R240). -/
def execPlotF0 (absolute : Bool) (effect : PlotEffect) (x y : S16) (s : State) : Result :=
  finish (.plotF0 absolute effect x y) (plotReply 0xF0 absolute effect x y s)

/-- PLOT with primitive code 0xF8 (R234, R240). -/
def execPlotF8 (absolute : Bool) (effect : PlotEffect) (x y : S16) (s : State) : Result :=
  finish (.plotF8 absolute effect x y) (plotReply 0xF8 absolute effect x y s)

end Sys2Proof.Machine
end

