-- ==== Sys2Proof/Machine/Text.lean ====
section
/-! DEFINITION. The text commands: NUL, BEL, LF, CLS, CR, TAB, CHAR, DEL, UDG. Rules R210 to R218 of 43_cursor_text.md. -/

namespace Sys2Proof.Machine

/-- NUL (R210): no effect. -/
def execNul (s : State) : Result := finish .nul (handled s [])

/-- BEL (R211). -/
def execBel (s : State) : Result := finish .bel (handled s [.txt .bell])

/-- LF (R212): one line step. -/
def execLf (s : State) : Result :=
  let m := lineStep s.flags s.v.twin s.text
  finish .lf (handled (s.setText m.cell) m.events)

/-- CLS (R213): the request, then the cursor goes home. -/
def execCls (s : State) : Result :=
  finish .cls (handled (s.setText (homeCell s.flags s.v.twin)) [.txt .clearText])

/-- CR (R214): the start edge of the advance axis. -/
def execCr (s : State) : Result :=
  finish .cr (handled (s.setText (carriageReturn s.flags s.v.twin s.text)) [])

/-- TAB (R215): the two bytes, zero-extended, as they are. -/
def execTab (c r : Byte) (s : State) : Result :=
  finish (.tab c r) (handled (s.setText ⟨zext16 c, zext16 r⟩) [])

/-- Send a character code at the cursor, then advance (R216, R218). -/
def printCode (code : Byte) (s : State) : Reply :=
  let m := advanceAfterPrint s.flags s.v.twin s.text
  handled (s.setText m.cell) (.txt (.putChar code s.text.col s.text.row) :: m.events)

/-- CHAR (R216). -/
def execChar (code : Byte) (s : State) : Result := finish (.char code) (printCode code s)

/-- DEL (R217): step back, then delete the cell the cursor stands on. -/
def execDel (s : State) : Result :=
  let c := backStep s.flags s.v.twin s.text
  finish .del (handled (s.setText c) [.txt (.deleteChar c.col c.row)])

/-- UDG (R218): the code is forwarded unchanged. -/
def execUdg (code : Byte) (s : State) : Result := finish (.udg code) (printCode code s)

end Sys2Proof.Machine
end

