-- ==== Sys2Proof/Machine/Unlisted.lean ====
section
/-! DEFINITION. The seventeen control codes that the control table leaves out. Rules R300 to R302 of
47_unlisted_control.md. -/

namespace Sys2Proof.Machine

/-- A control code the table leaves out. Without an entry in `CTRL_EXT` its single byte is discarded (R300); with one,
its operands have been consumed and `UnsupportedOperation` is raised (`Handler_EXT`, R302). -/
def unlistedControl (op : Byte) (i : Instr) (s : State) : Result :=
  match controlCount s.params.ctrlExt op with
  | none => .next (rejected op s)
  | some _ => finish i (raise s (.unsupportedOperation op none) .unsupported)

/-- UNDEF01 (R300, R302). -/
def execUndef01 (ops : List Byte) (s : State) : Result := unlistedControl 1 (.undef01 ops) s

/-- UNDEF02 (R300, R302). -/
def execUndef02 (ops : List Byte) (s : State) : Result := unlistedControl 2 (.undef02 ops) s

/-- UNDEF03 (R300, R302). -/
def execUndef03 (ops : List Byte) (s : State) : Result := unlistedControl 3 (.undef03 ops) s

/-- UNDEF04 (R300, R302). -/
def execUndef04 (ops : List Byte) (s : State) : Result := unlistedControl 4 (.undef04 ops) s

/-- UNDEF05 (R300, R302). -/
def execUndef05 (ops : List Byte) (s : State) : Result := unlistedControl 5 (.undef05 ops) s

/-- UNDEF06 (R300, R302). -/
def execUndef06 (ops : List Byte) (s : State) : Result := unlistedControl 6 (.undef06 ops) s

/-- UNDEF08 (R300, R302). -/
def execUndef08 (ops : List Byte) (s : State) : Result := unlistedControl 8 (.undef08 ops) s

/-- UNDEF09 (R300, R302). -/
def execUndef09 (ops : List Byte) (s : State) : Result := unlistedControl 9 (.undef09 ops) s

/-- UNDEF11 (R300, R302). -/
def execUndef11 (ops : List Byte) (s : State) : Result := unlistedControl 11 (.undef11 ops) s

/-- UNDEF14 (R300, R302). -/
def execUndef14 (ops : List Byte) (s : State) : Result := unlistedControl 14 (.undef14 ops) s

/-- UNDEF15 (R300, R302). -/
def execUndef15 (ops : List Byte) (s : State) : Result := unlistedControl 15 (.undef15 ops) s

/-- UNDEF16 (R300, R302). -/
def execUndef16 (ops : List Byte) (s : State) : Result := unlistedControl 16 (.undef16 ops) s

/-- UNDEF20 (R300, R302). -/
def execUndef20 (ops : List Byte) (s : State) : Result := unlistedControl 20 (.undef20 ops) s

/-- UNDEF21 (R300, R302). -/
def execUndef21 (ops : List Byte) (s : State) : Result := unlistedControl 21 (.undef21 ops) s

/-- UNDEF26 (R300, R302). -/
def execUndef26 (ops : List Byte) (s : State) : Result := unlistedControl 26 (.undef26 ops) s

/-- UNDEF27 (R300, R302). -/
def execUndef27 (ops : List Byte) (s : State) : Result := unlistedControl 27 (.undef27 ops) s

/-- UNDEF30 (R300, R302). -/
def execUndef30 (ops : List Byte) (s : State) : Result := unlistedControl 30 (.undef30 ops) s

end Sys2Proof.Machine
end

