-- ==== Sys2Proof/Machine/Vdu23.lean ====
section
/-! DEFINITION. VDU23 and its sub-commands. Rules R280 to R288 of 46_vdu23.md. -/

namespace Sys2Proof.Machine

/-- `Sub_CURSOR` (R284). -/
def cursorReply (n : Byte) (s : State) : Reply := handled (s.setVars { s.v with cursorAppearance := n }) []

/-- `Sub_SCROLL` (R285): the three bytes are passed on as they are. -/
def scrollReply (extent direction movement : Byte) (s : State) : Reply :=
  handled s [.ren (.scrollBlock extent direction movement)]

/-- `Sub_PRINTDIR` (R286): keep the bits set in `y`, then toggle the bits set in `x`. -/
def printdirReply (x y : Byte) (s : State) : Reply := handled (s.setFlags ((s.flags &&& y) ^^^ x)) []

/-- A reserved sub-code, or a tint selector out of range (R288). -/
def badSubCode (sub : Byte) (s : State) : Reply := raise s (.protocolError 23 (some sub)) .badSubCode

/-- `Sub_TINT` (R287). -/
def tintReply (n v : Byte) (s : State) : Reply :=
  match n.toNat with
  | 0 => handled (s.setVars { s.v with tintTextFg := v }) []
  | 1 => handled (s.setVars { s.v with tintTextBg := v }) []
  | 2 => handled (s.setVars { s.v with tintGfxFg := v }) []
  | 3 => handled (s.setVars { s.v with tintGfxBg := v }) []
  | _ => badSubCode subTint s

/-- `Handler_VDU23` (R280): the sub-code selects the sub-command. -/
def vdu23Reply (sub p1 p2 p3 : Byte) (s : State) : Reply :=
  if sub = subCursor then cursorReply p1 s
  else if sub = subScroll then scrollReply p1 p2 p3 s
  else if sub = subPrintdir then printdirReply p1 p2 s
  else if sub = subTint then tintReply p1 p2 s
  else badSubCode sub s

/-- VDU23 as a whole (R280). -/
def execVdu23 (sub p1 p2 p3 p4 p5 p6 p7 p8 : Byte) (s : State) : Result :=
  finish (.vdu23 sub p1 p2 p3 p4 p5 p6 p7 p8) (vdu23Reply sub p1 p2 p3 s)

/-- VDU23 CURSOR (R284). -/
def execVdu23Cursor (n p2 p3 p4 p5 p6 p7 p8 : Byte) (s : State) : Result :=
  finish (.vdu23Cursor n p2 p3 p4 p5 p6 p7 p8) (cursorReply n s)

/-- VDU23 SCROLL (R285). -/
def execVdu23Scroll (extent direction movement p4 p5 p6 p7 p8 : Byte) (s : State) : Result :=
  finish (.vdu23Scroll extent direction movement p4 p5 p6 p7 p8) (scrollReply extent direction movement s)

/-- VDU23 PRINTDIR (R286). -/
def execVdu23Printdir (x y p3 p4 p5 p6 p7 p8 : Byte) (s : State) : Result :=
  finish (.vdu23Printdir x y p3 p4 p5 p6 p7 p8) (printdirReply x y s)

/-- VDU23 TINT (R287). -/
def execVdu23Tint (n v p3 p4 p5 p6 p7 p8 : Byte) (s : State) : Result :=
  finish (.vdu23Tint n v p3 p4 p5 p6 p7 p8) (tintReply n v s)

/-- VDU23 with a reserved sub-code (R288). -/
def execVdu23Reserved (sub p1 p2 p3 p4 p5 p6 p7 p8 : Byte) (s : State) : Result :=
  finish (.vdu23Reserved sub p1 p2 p3 p4 p5 p6 p7 p8) (badSubCode sub s)

end Sys2Proof.Machine
end

