-- ==== Sys2Proof/Machine/Windows.lean ====
section
/-! DEFINITION. GWINDOW, TWINDOW, ORIGIN: pure stores, without any check of the operands (R263). Rules R260 to R267 of
45_windows_origin.md. -/

namespace Sys2Proof.Machine

/-- GWINDOW (R262). -/
def execGwindow (left bottom right top : S16) (s : State) : Result :=
  finish (.gwindow left bottom right top)
    (handled (s.setVars { s.v with gwin := ⟨left, bottom, right, top⟩ }) [])

/-- TWINDOW (R264): the text window, and no graphics window; the cursor stays. -/
def execTwindow (left bottom right top : S16) (s : State) : Result :=
  finish (.twindow left bottom right top)
    (handled (s.setVars { s.v with twin := ⟨left, bottom, right, top⟩ }) [])

/-- ORIGIN (R266): both fields. -/
def execOrigin (x y : S16) (s : State) : Result :=
  finish (.origin x y) (handled (s.setOrigin ⟨x, y⟩) [])

end Sys2Proof.Machine
end

