-- ==== Sys2Proof/Machine/Dispatch.lean ====
section
/-! DEFINITION. The dispatch: one arm for each constructor of `Instr`, each a direct call of the command's meaning (R118). -/

namespace Sys2Proof.Machine

def exec (i : Instr) (s : State) : Host.Outcome State Fault Refusal :=
  match i with
  | .nul => Sys2Proof.Machine.execNul s
  | .bel => Sys2Proof.Machine.execBel s
  | .lf => Sys2Proof.Machine.execLf s
  | .cls => Sys2Proof.Machine.execCls s
  | .cr => Sys2Proof.Machine.execCr s
  | .colour background c => Sys2Proof.Machine.execColour background c s
  | .gcol action background c => Sys2Proof.Machine.execGcol action background c s
  | .palette l p r g b => Sys2Proof.Machine.execPalette l p r g b s
  | .mode shadow n => Sys2Proof.Machine.execMode shadow n s
  | .vdu23 sub p1 p2 p3 p4 p5 p6 p7 p8 => Sys2Proof.Machine.execVdu23 sub p1 p2 p3 p4 p5 p6 p7 p8 s
  | .gwindow left bottom right top => Sys2Proof.Machine.execGwindow left bottom right top s
  | .plot k x y => Sys2Proof.Machine.execPlot k x y s
  | .twindow left bottom right top => Sys2Proof.Machine.execTwindow left bottom right top s
  | .origin x y => Sys2Proof.Machine.execOrigin x y s
  | .tab c r => Sys2Proof.Machine.execTab c r s
  | .char code => Sys2Proof.Machine.execChar code s
  | .del => Sys2Proof.Machine.execDel s
  | .udg code => Sys2Proof.Machine.execUdg code s
  | .undef01 ops => Sys2Proof.Machine.execUndef01 ops s
  | .undef02 ops => Sys2Proof.Machine.execUndef02 ops s
  | .undef03 ops => Sys2Proof.Machine.execUndef03 ops s
  | .undef04 ops => Sys2Proof.Machine.execUndef04 ops s
  | .undef05 ops => Sys2Proof.Machine.execUndef05 ops s
  | .undef06 ops => Sys2Proof.Machine.execUndef06 ops s
  | .undef08 ops => Sys2Proof.Machine.execUndef08 ops s
  | .undef09 ops => Sys2Proof.Machine.execUndef09 ops s
  | .undef11 ops => Sys2Proof.Machine.execUndef11 ops s
  | .undef14 ops => Sys2Proof.Machine.execUndef14 ops s
  | .undef15 ops => Sys2Proof.Machine.execUndef15 ops s
  | .undef16 ops => Sys2Proof.Machine.execUndef16 ops s
  | .undef20 ops => Sys2Proof.Machine.execUndef20 ops s
  | .undef21 ops => Sys2Proof.Machine.execUndef21 ops s
  | .undef26 ops => Sys2Proof.Machine.execUndef26 ops s
  | .undef27 ops => Sys2Proof.Machine.execUndef27 ops s
  | .undef30 ops => Sys2Proof.Machine.execUndef30 ops s
  | .vdu23Cursor n p2 p3 p4 p5 p6 p7 p8 => Sys2Proof.Machine.execVdu23Cursor n p2 p3 p4 p5 p6 p7 p8 s
  | .vdu23Scroll extent direction movement p4 p5 p6 p7 p8 => Sys2Proof.Machine.execVdu23Scroll extent direction movement p4 p5 p6 p7 p8 s
  | .vdu23Printdir x y p3 p4 p5 p6 p7 p8 => Sys2Proof.Machine.execVdu23Printdir x y p3 p4 p5 p6 p7 p8 s
  | .vdu23Tint n v p3 p4 p5 p6 p7 p8 => Sys2Proof.Machine.execVdu23Tint n v p3 p4 p5 p6 p7 p8 s
  | .vdu23Reserved sub p1 p2 p3 p4 p5 p6 p7 p8 => Sys2Proof.Machine.execVdu23Reserved sub p1 p2 p3 p4 p5 p6 p7 p8 s
  | .plot00 absolute effect x y => Sys2Proof.Machine.execPlot00 absolute effect x y s
  | .plot08 absolute effect x y => Sys2Proof.Machine.execPlot08 absolute effect x y s
  | .plot10 absolute effect x y => Sys2Proof.Machine.execPlot10 absolute effect x y s
  | .plot18 absolute effect x y => Sys2Proof.Machine.execPlot18 absolute effect x y s
  | .plot20 absolute effect x y => Sys2Proof.Machine.execPlot20 absolute effect x y s
  | .plot28 absolute effect x y => Sys2Proof.Machine.execPlot28 absolute effect x y s
  | .plot30 absolute effect x y => Sys2Proof.Machine.execPlot30 absolute effect x y s
  | .plot38 absolute effect x y => Sys2Proof.Machine.execPlot38 absolute effect x y s
  | .plot40 absolute effect x y => Sys2Proof.Machine.execPlot40 absolute effect x y s
  | .plot48 absolute effect x y => Sys2Proof.Machine.execPlot48 absolute effect x y s
  | .plot50 absolute effect x y => Sys2Proof.Machine.execPlot50 absolute effect x y s
  | .plot58 absolute effect x y => Sys2Proof.Machine.execPlot58 absolute effect x y s
  | .plot60 absolute effect x y => Sys2Proof.Machine.execPlot60 absolute effect x y s
  | .plot68 absolute effect x y => Sys2Proof.Machine.execPlot68 absolute effect x y s
  | .plot70 absolute effect x y => Sys2Proof.Machine.execPlot70 absolute effect x y s
  | .plot78 absolute effect x y => Sys2Proof.Machine.execPlot78 absolute effect x y s
  | .plot80 absolute effect x y => Sys2Proof.Machine.execPlot80 absolute effect x y s
  | .plot88 absolute effect x y => Sys2Proof.Machine.execPlot88 absolute effect x y s
  | .plot90 absolute effect x y => Sys2Proof.Machine.execPlot90 absolute effect x y s
  | .plot98 absolute effect x y => Sys2Proof.Machine.execPlot98 absolute effect x y s
  | .plotA0 absolute effect x y => Sys2Proof.Machine.execPlotA0 absolute effect x y s
  | .plotA8 absolute effect x y => Sys2Proof.Machine.execPlotA8 absolute effect x y s
  | .plotB0 absolute effect x y => Sys2Proof.Machine.execPlotB0 absolute effect x y s
  | .plotB8 absolute effect x y => Sys2Proof.Machine.execPlotB8 absolute effect x y s
  | .plotC0 absolute effect x y => Sys2Proof.Machine.execPlotC0 absolute effect x y s
  | .plotC8 absolute effect x y => Sys2Proof.Machine.execPlotC8 absolute effect x y s
  | .plotD0 absolute effect x y => Sys2Proof.Machine.execPlotD0 absolute effect x y s
  | .plotD8 absolute effect x y => Sys2Proof.Machine.execPlotD8 absolute effect x y s
  | .plotE0 absolute effect x y => Sys2Proof.Machine.execPlotE0 absolute effect x y s
  | .plotE8 absolute effect x y => Sys2Proof.Machine.execPlotE8 absolute effect x y s
  | .plotF0 absolute effect x y => Sys2Proof.Machine.execPlotF0 absolute effect x y s
  | .plotF8 absolute effect x y => Sys2Proof.Machine.execPlotF8 absolute effect x y s

end Sys2Proof.Machine
end

