-- ==== Sys2Proof/Machine/Feed.lean ====
section
/-! DEFINITION. The decoder: `feed`, `dispatchOpcode`, `enqueue`, `cancel`, and the host's reset. Rules R110 to R127 of
40_decoder.md, R340 of 70_reset_and_hazards.md. -/

namespace Sys2Proof.Machine

/-- `feed` returns `Buffered` (R113). -/
def State.buffering (s : State) : State := { s with results := s.results ++ [.buffered] }

/-- Run the handler of an opcode on its operands (R112, R118). In a state that breaks the invariant of R25 the latched
opcode and the number of operands may not fit, and there is no handler to run. -/
def runCommand (op : Byte) (ops : List Byte) (s : State) : Result :=
  match command op ops with
  | some i => exec i s
  | none => .refused .decoderOutOfStep

/-- `dispatchOpcode(b)` (R114). A command without operands runs in the same step (R115); a control code with no entry
runs as the UNDEF command, which discards the byte (R119). -/
def dispatchOpcode (b : Byte) (s : State) : Result :=
  match operandCount s.params.ctrlExt b with
  | 0 => runCommand b [] s
  | n + 1 => .next ((s.latch b (n + 1)).buffering)

/-- The operand half of `feed` (R112): store the byte; on the last one, back to stage `OPCODE` and run the handler. -/
def acceptOperand (b : Byte) (s : State) : Result :=
  let t := s.storeOperand b
  if t.req ≤ t.cnt then runCommand t.curOp (t.heldOperands t.req.toNat) t.toOpcode
  else .next (t.buffering)

/-- `feed(b)` (R112). -/
def feed (b : Byte) (s : State) : Result :=
  match s.stage with
  | .opcode => dispatchOpcode b s
  | .operand => acceptOperand b s

/-- `feed` each byte in order (R124). -/
def feedAll : List Byte → State → Result
  | [], s => .next s
  | b :: bytes, s =>
    match feed b s with
    | .next t => feedAll bytes t
    | .fault r => .fault r
    | .refused r => .refused r

/-- The results that `enqueue` hands back: all but the `Buffered` ones (R124). -/
def withoutBuffered (rs : List FeedResult) : List FeedResult := rs.filter fun r => r != .buffered

/-- `enqueue(bytes)` (R124). -/
def enqueue (bytes : List Byte) (s : State) : Result :=
  match feedAll bytes { s with results := [] } with
  | .next t => .next { t with results := s.results ++ withoutBuffered t.results }
  | .fault r => .fault r
  | .refused r => .refused r

/-- `cancel()` (R125). -/
def cancel (s : State) : Result := .next s.toOpcode

/-- The reset of a session (R340): every register at its reset value, and nothing emitted (R341). What the host has still
to do and what an observer has recorded are no part of the session. -/
def resetSession (s : State) : Result :=
  .next { State.resetWith s.params with
    input := s.input, out := s.out, results := s.results, tick := s.tick + 1 }

/-- One move of the host (R17, R44). -/
def perform (op : HostOp) (s : State) : Result :=
  match op with
  | .feed b => feed b s
  | .enqueue bytes => enqueue bytes s
  | .cancel => cancel s
  | .reset => resetSession s

/-- The bytes of the first command of a sequence: its opcode byte and the operand bytes that follow it (R80). -/
def firstCommandBytes (ext : CtrlExt) (bytes : List Byte) : List Byte :=
  match bytes with
  | [] => []
  | op :: rest => op :: rest.take (operandCount ext op)

/-- Put a command where the next step takes its input from, with the decoder at a command boundary. -/
def placeCommand (bytes : List Byte) (s : State) : State :=
  { s.toOpcode with input := .enqueue (firstCommandBytes s.params.ctrlExt bytes) :: s.input }

end Sys2Proof.Machine
end

