-- ==== Sys2Proof/Machine/Step.lean ====
section
/-! DEFINITION. One step of the machine, and the placing of a command where the next step fetches it. -/

namespace Sys2Proof.Machine

/-- One step: the next move of the host, in input order (R10, R70). With no move outstanding the block is idle and keeps
all its state (R321). -/
def step (s : State) : Host.Outcome State Fault Refusal :=
  match s.input with
  | [] => .next s
  | op :: rest => perform op { s with input := rest }

/-- The state with the instruction of a word of spec/opcode_table.json stored where `step` fetches next: as the bytes of
one `enqueue` at the front of the input stream, the decoder in stage `OPCODE`. -/
def State.withFetchWord (s : State) (nbits w : Nat) : State := placeCommand (tableBytes nbits w) s

end Sys2Proof.Machine
end

