-- ==== Sys2Proof/Machine/Ports.lean ====
section
/-! DEFINITION. The read ports: pure functions of the state that change nothing (R46, R69). `resolveMode`, `build`,
`resolveColour` and `decodeFlags` are the operations of the same names; the others are here. -/

namespace Sys2Proof.Machine

/-- `history()` (R232): `(oldest, old, current)`. -/
def history (s : State) : Point × Point × Point := (s.gcOldest, s.gcOld, s.gcCur)

/-- `pixelAspect(d)` (R145): the exact rational, as numerator and denominator; 1 for a text-only mode. -/
def pixelAspect (d : ModeDesc) : Nat × Nat :=
  if d.pixelWidth = 0 ∨ d.pixelHeight = 0 then (1, 1)
  else (d.unitHeight.toNat * d.pixelWidth.toNat, d.pixelHeight.toNat * d.unitWidth.toNat)

/-- `V.char_spacing` (R39): a free value at all times. -/
def charSpacing (s : State) : Nat := Config.unspecifiedCharSpacing s.tick

/-- A point in device coordinates, as a collaborator downstream of the renderer port may compute it (R5; D20). That they
are a pair of rational numbers is the model's DESIGN CHOICE (log entry 2). -/
def deviceCoordinates (s : State) (p : Point) : ℚ × ℚ := Config.deviceScale s.mode s.origin p

end Sys2Proof.Machine
end

