-- ==== Sys2Proof/Safety.lean ====
section
/-! DEFINITION. What a good state is, in the terms the statements use: the invariant of the decoder (R25), the agreement
of mode, palette and mode table, and a run that never stops (R111, R317). -/

namespace Sys2Proof.Machine

/-- The decoder is between two commands (R25): nothing is held. -/
def State.atBoundary (s : State) : Prop := s.stage = .opcode ∧ s.req = 1 ∧ s.cnt = 0

/-- The decoder is inside a command (R25): fewer bytes are held than the latched opcode needs. -/
def State.insideCommand (s : State) : Prop :=
  s.stage = .operand ∧ 1 ≤ s.req.toNat ∧ s.req.toNat ≤ 9 ∧ s.cnt.toNat < s.req.toNat ∧
    isControl s.curOp = true ∧ controlCount s.params.ctrlExt s.curOp = some s.req.toNat

/-- The invariant of R25. -/
def State.decoderOk (s : State) : Prop := s.atBoundary ∨ s.insideCommand

/-- Every valid entry of the palette RAM is the one that `build` gives the active mode's depth (R28). -/
def State.paletteOk (s : State) : Prop :=
  ∀ i : Fin 256, i.val < paletteSize s.mode.bitsPerPixel → (build s.mode.bitsPerPixel)[i.val]? = some (s.palette.get i)

/-- The active mode is an entry of the mode table, found under its own number (R27, R142). -/
def State.modeOk (s : State) : Prop := modeEntry s.params s.mode.id = some s.mode

/-- The invariant of the machine. -/
def State.Inv (s : State) : Prop := s.decoderOk ∧ s.paletteOk ∧ s.modeOk

/-- `k` steps from a state end in a state, and not in a stop. -/
def State.reaches (k : Nat) (s t : State) : Prop := Sys2Proof.core.run k s = .next t

end Sys2Proof.Machine
end

