-- ==== Sys2Proof/Certificates/Slice0/Obligations.lean ====
section
/-! DEFINITION. The statements for the provers. Each is written in the spec's own terms: coordinates as integers, flags by
their bits, requests and results written out. The helpers of `Spec` say what the rules say and use none of the machine's
own operations for the same thing. A next state that is written out as a record is also the frame: every field not named
is the one of the state before. -/

namespace Sys2Proof.Spec

open Sys2Proof.Machine

/-- The state after a command whose handler emitted `events` (a `Present` that is due among them) and returned `outcome`;
nothing else has changed. `tick` is the model's own counter. -/
def done (s : State) (op : Byte) (operands : List Byte) (outcome : CmdOutcome) (events : List Event) : State :=
  { s with
    out := s.out ++ events
    results := s.results ++ [.completed op operands outcome]
    tick := s.tick + 1 }

/-! ### Text cursor (R193, R196 to R200), over integers -/

/-- A clear sign bit is +1, a set one −1 (R192). -/
def sign (bit : Bool) : Int := if bit then -1 else 1

/-- The horizontal sign: bit 1 of the flags (R193). -/
def hsign (f : Byte) : Int := sign (f.getLsbD 1)

/-- The vertical sign: bit 2 of the flags (R193). -/
def vsign (f : Byte) : Int := sign (f.getLsbD 2)

/-- `wrap16` (R7). -/
def wrap16 (n : Int) : S16 := BitVec.ofInt 16 n

/-- A position lies beyond an edge of the window, in the direction of the sign (R196). -/
def past (lo hi : S16) (sg : Int) (v : S16) : Bool :=
  if sg = 1 then decide (hi.toInt < v.toInt) else decide (v.toInt < lo.toInt)

/-- The edge that a movement of this sign starts from (R196). -/
def startEdge (lo hi : S16) (sg : Int) : S16 := if sg = 1 then lo else hi

/-- The edge that a movement of this sign comes to (R196). -/
def endEdge (lo hi : S16) (sg : Int) : S16 := if sg = 1 then hi else lo

/-- The component of a vector for a sign. -/
def dir (sg : Int) : Dir := if sg = 1 then .plus else .minus

/-- One step along an axis: the new position, and whether it stayed on the last line because it passed it (R197). -/
def lineAlong (lo hi : S16) (sg : Int) (v : S16) : S16 × Bool :=
  let e := wrap16 (v.toInt + sg)
  if past lo hi sg e then (endEdge lo hi sg, true) else (e, false)

/-- The scroll request of a line step that passed the last line, if it did (R197). -/
def scrollIf (passed : Bool) (v : Vec) : List Event := if passed then [.txt (.scrollRequest v)] else []

/-- The end-of-line vector of the flags when movement is not suppressed (R193). -/
def eolVec (f : Byte) : Vec := if f.getLsbD 3 then ⟨dir (hsign f), .zero⟩ else ⟨.zero, dir (vsign f)⟩

/-- `LineStep` (R197): the cell, and what is emitted. -/
def lineStep (f : Byte) (w : Window) (c : Cell) : Cell × List Event :=
  if f.getLsbD 5 then (c, [])
  else if f.getLsbD 3 then
    let r := lineAlong w.left w.right (hsign f) c.col
    (⟨r.1, c.row⟩, scrollIf r.2 (eolVec f))
  else
    let r := lineAlong w.top w.bottom (vsign f) c.row
    (⟨c.col, r.1⟩, scrollIf r.2 (eolVec f))

/-- `AdvanceAfterPrint` (R199): the cell, and what is emitted. -/
def advance (f : Byte) (w : Window) (c : Cell) : Cell × List Event :=
  if f.getLsbD 5 then (c, [])
  else if f.getLsbD 3 then
    let a := wrap16 (c.row.toInt + vsign f)
    if past w.top w.bottom (vsign f) a then lineStep f w ⟨c.col, startEdge w.top w.bottom (vsign f)⟩
    else (⟨c.col, a⟩, [])
  else
    let a := wrap16 (c.col.toInt + hsign f)
    if past w.left w.right (hsign f) a then lineStep f w ⟨startEdge w.left w.right (hsign f), c.row⟩
    else (⟨a, c.row⟩, [])

/-- `BackStep` (R200). -/
def backStep (f : Byte) (w : Window) (c : Cell) : Cell :=
  if f.getLsbD 5 then c
  else if f.getLsbD 3 then
    let a := wrap16 (c.row.toInt - vsign f)
    let e := wrap16 (c.col.toInt - hsign f)
    if past w.top w.bottom (-vsign f) a then
      if past w.left w.right (-hsign f) e then c else ⟨e, endEdge w.top w.bottom (vsign f)⟩
    else ⟨c.col, a⟩
  else
    let a := wrap16 (c.col.toInt - hsign f)
    let e := wrap16 (c.row.toInt - vsign f)
    if past w.left w.right (-hsign f) a then
      if past w.top w.bottom (-vsign f) e then c else ⟨endEdge w.left w.right (hsign f), e⟩
    else ⟨a, c.row⟩

/-- `Home` (R198): it does not depend on bit 3 or bit 5. -/
def home (f : Byte) (w : Window) : Cell :=
  ⟨startEdge w.left w.right (hsign f), startEdge w.top w.bottom (vsign f)⟩

/-- A position lies inside the window along an axis, and not on the last cell that an advance of this sign comes to. -/
def insideLine (lo hi : S16) (sg : Int) (v : S16) : Prop :=
  lo.toInt ≤ v.toInt ∧ v.toInt ≤ hi.toInt ∧ v ≠ endEdge lo hi sg

/-- Carriage return (R214). -/
def carriage (f : Byte) (w : Window) (c : Cell) : Cell :=
  if f.getLsbD 3 then ⟨c.col, startEdge w.top w.bottom (vsign f)⟩
  else ⟨startEdge w.left w.right (hsign f), c.row⟩

/-! ### Colours (R164, R166) -/

/-- The number of bits of a depth. -/
def bits : Depth → Nat
  | .bpp1 => 1
  | .bpp2 => 2
  | .bpp4 => 4
  | .bpp8 => 8

/-- The palette index of a logical colour and a tint, as unsigned numbers (R166). -/
def index (d : Depth) (logical tint : Nat) : Nat :=
  if d = .bpp8 then
    ((logical &&& 33) <<< 2) ||| ((logical &&& 14) <<< 3) ||| ((logical &&& 16) >>> 1) ||| (tint >>> 6)
  else logical % 2 ^ bits d

/-- `resolveColour` (R166): the entry of the palette that the index selects. -/
def resolve (s : State) (logical : Logical) (tint : Byte) : Option Colour :=
  s.palette[index s.mode.bitsPerPixel logical.toNat tint.toNat]?

/-- `WHITE(bpp)` (R147). -/
def whiteOf : Depth → Logical
  | .bpp1 => 1
  | .bpp2 => 3
  | .bpp4 => 7
  | .bpp8 => 63

/-! ### PLOT (R231, R236, R237, R239, R240) -/

/-- A form of PLOT: one constructor of the table, without its operands. -/
abbrev PlotForm := Bool → PlotEffect → S16 → S16 → Instr

/-- A request, without its operands: the points oldest, old and current, then effect, action and colour. -/
abbrev DrawForm := Point → Point → Point → DrawEffect → Byte → Option Colour → RenRequest

/-- The codes that the primitive table maps to a request (R240), with the points of R239. -/
def supported : List (PlotForm × Byte × DrawForm) :=
  [(.plot00, 0x00, fun _ old cur => .drawLine old cur 0), (.plot08, 0x08, fun _ old cur => .drawLine old cur 1),
   (.plot10, 0x10, fun _ old cur => .drawLine old cur 2), (.plot18, 0x18, fun _ old cur => .drawLine old cur 3),
   (.plot20, 0x20, fun _ old cur => .drawLine old cur 4), (.plot28, 0x28, fun _ old cur => .drawLine old cur 5),
   (.plot30, 0x30, fun _ old cur => .drawLine old cur 6), (.plot38, 0x38, fun _ old cur => .drawLine old cur 7),
   (.plot40, 0x40, fun _ _ cur => .drawPoint cur), (.plot50, 0x50, .fillTriangle),
   (.plot60, 0x60, fun _ old cur => .fillRectangle old cur), (.plot90, 0x90, fun _ old cur => .drawCircle old cur),
   (.plot98, 0x98, fun _ old cur => .fillCircle old cur)]

/-- The codes that the primitive table maps to `Unsupported` (R240). -/
def unsupported : List (PlotForm × Byte) :=
  [(.plot48, 0x48), (.plot58, 0x58), (.plot68, 0x68), (.plot70, 0x70), (.plot78, 0x78), (.plot80, 0x80),
   (.plot88, 0x88), (.plotA0, 0xA0), (.plotA8, 0xA8), (.plotB0, 0xB0), (.plotB8, 0xB8), (.plotC0, 0xC0),
   (.plotC8, 0xC8), (.plotD0, 0xD0), (.plotD8, 0xD8), (.plotE0, 0xE0), (.plotE8, 0xE8), (.plotF0, 0xF0),
   (.plotF8, 0xF8)]

/-- The new point (R236), its sums over the integers and wrapped. -/
def newPoint (absolute : Bool) (x y : S16) (cur : Point) : Point :=
  if absolute then ⟨x, y⟩ else ⟨wrap16 (cur.x.toInt + x.toInt), wrap16 (cur.y.toInt + y.toInt)⟩

/-- The history shifted by a new point (R231). -/
def shifted (s : State) (p : Point) : State := { s with gcOldest := s.gcOld, gcOld := s.gcCur, gcCur := p }

/-- The operand bytes of a PLOT with this primitive code (R92). -/
def plotOperands (code : Byte) (absolute : Bool) (e : PlotEffect) (x y : S16) : List Byte :=
  [plotCode code absolute e, loByte x, hiByte x, loByte y, hiByte y]

/-- The drawing effects (R92, R237), each with the effect of the request, the colour and the action. -/
def drawingColour (s : State) : PlotEffect → Option (DrawEffect × Option Colour × Byte)
  | .move => none
  | .foreground => some (.foreground, resolve s s.v.gfxFg s.v.tintGfxFg, s.v.gfxFgAction)
  | .inverse => some (.inverse, none, s.v.gfxFgAction)
  | .background => some (.background, resolve s s.v.gfxBg s.v.tintGfxBg, s.v.gfxBgAction)

/-! ### The decoder (R112, R114) -/

/-- The operand buffer with these bytes written from index `k` on. -/
def fill (v : Vector Byte 9) : Nat → List Byte → Vector Byte 9
  | _, [] => v
  | k, b :: bs => fill (v.setIfInBounds k b) (k + 1) bs

/-- The state in which the handler of a command runs, when the command began at `s`: its operands have gone through the
buffer, and its opcode through `cur_op` (R112, R114). -/
def collected (i : Instr) (s : State) : State :=
  if i.operands = [] then s else { s with curOp := i.opcode, opbuf := fill s.opbuf 0 i.operands }

/-- The results that an `enqueue` hands back: all but the `Buffered` ones (R124). -/
def handedBack : List FeedResult → List FeedResult
  | [] => []
  | .buffered :: rs => handedBack rs
  | r :: rs => r :: handedBack rs

/-- The control codes that the control table leaves out, each with its constructor (R84). -/
def unlisted : List (Byte × (List Byte → Instr)) :=
  [(1, .undef01), (2, .undef02), (3, .undef03), (4, .undef04), (5, .undef05), (6, .undef06), (8, .undef08),
   (9, .undef09), (11, .undef11), (14, .undef14), (15, .undef15), (16, .undef16), (20, .undef20), (21, .undef21),
   (26, .undef26), (27, .undef27), (30, .undef30)]

/-- The first outcome, and from the state it leaves the second. -/
def andThen (r : Result) (k : State → Result) : Result :=
  match r with
  | .next t => k t
  | .fault e => .fault e
  | .refused e => .refused e

end Sys2Proof.Spec

open Sys2Proof Sys2Proof.Machine

/-! ### Encoding -/

/-- Decoding the bytes of any well-formed command, whatever follows them, gives the command back, in the row of the opcode
table that refines it, and leaves what follows (R80, R82, R99). Every constructor, every operand value. -/
def Obligations.DecodeEncodeGivesInstructionBack : Prop :=
  ∀ (ext : CtrlExt) (i : Instr) (rest : List Byte), i.wellFormed ext = true →
    decode ext (encode i ++ rest) = .ok (i.refined, rest) ∧
      ((∀ sub p1 p2 p3 p4 p5 p6 p7 p8, i ≠ .vdu23 sub p1 p2 p3 p4 p5 p6 p7 p8) → (∀ k x y, i ≠ .plot k x y) →
        i.refined = i)

/-- What the decoder reads is well-formed, and encoding it gives the bytes back: no bit of a command is dropped, and each
sequence of bytes has one reading (R80, R82, R85). -/
def Obligations.EncodeDecodeGivesBytesBack : Prop :=
  ∀ (ext : CtrlExt) (bytes rest : List Byte) (i : Instr), decode ext bytes = .ok (i, rest) →
    encode i ++ rest = bytes ∧ i.wellFormed ext = true ∧ i.refined = i

/-- "every byte value is classified" (R85): whatever the opcode byte, the decoder refuses only a sequence that ends before
the operands of its first command, and says how many that command needs. -/
def Obligations.DecoderRefusesOnlyTruncation : Prop :=
  ∀ (ext : CtrlExt) (op : Byte) (bytes : List Byte),
    (operandCount ext op ≤ bytes.length → ∃ i, decode ext (op :: bytes) = .ok (i, bytes.drop (operandCount ext op)) ∧
      i.opcode = op) ∧
    (bytes.length < operandCount ext op → decode ext (op :: bytes) = .error (.truncated op (operandCount ext op)))

/-- Words written out from the encodings of R86 to R95 and R281 decode to the commands they stand for: at least one for
each of the seven formats of R81. -/
def Obligations.SpecWordsDecode : Prop :=
  decode [] [0x0A] = .ok (.lf, []) ∧
  decode [] [0x11, 0x81] = .ok (.colour true 1, []) ∧
  decode [] [0x12, 3, 0x82] = .ok (.gcol 3 true 2, []) ∧
  decode [] [0x16, 156] = .ok (.mode true 28, []) ∧
  decode [] [0x18, 0x9C, 0xFF, 0, 0, 0xFF, 0x04, 0xFF, 0x03] = .ok (.gwindow (-100) 0 1279 1023, []) ∧
  decode [] [0x19, 81, 0x9C, 0xFF, 150, 0] = .ok (.plot50 false .foreground (-100) 150, []) ∧
  decode [] [0x1D, 0x80, 0x02, 0x00, 0x80] = .ok (.origin 640 (-32768), []) ∧
  decode [] [0x17, 16, 2, 253, 0, 0, 0, 0, 0, 0] = .ok (.vdu23Printdir 2 253 0 0 0 0 0 0, []) ∧
  decode [] [0x1F, 22, 7, 65] = .ok (.tab 22 7, [65]) ∧
  decode [] [0x02, 65] = .ok (.undef02 [], [65]) ∧
  decode [] [0x80] = .ok (.udg 0x80, []) ∧
  decode [] [0xA0] = .ok (.char 0xA0, [])

/-! ### The decoder's steps -/

/-- When the bytes that the host enqueues at a command boundary are one command, the step runs exactly that command: it is
`exec` of it, in the state whose input stream has moved on and through whose operand buffer the operands have passed. -/
def Obligations.StepRunsDecodedInstruction : Prop :=
  ∀ (s : State) (bytes : List Byte) (rest : List HostOp) (i : Instr), s.atBoundary →
    s.input = .enqueue bytes :: rest → decode s.params.ctrlExt bytes = .ok (i, []) →
    step s = exec i (Spec.collected i { s with input := rest })

/-- An instruction placed with `withFetchWord` is the one that the very next step runs, from any state. -/
def Obligations.FetchWordRunsInNextStep : Prop :=
  ∀ (s : State) (nbits w : Nat) (i : Instr) (rest : List Byte),
    decode s.params.ctrlExt (tableBytes nbits w) = .ok (i, rest) →
    step (s.withFetchWord nbits w) = exec i (Spec.collected i s.toOpcode)

/-- R116: from a command boundary, for an opcode with `n > 0` operands, the opcode byte and each of the first `n - 1`
operand bytes return `Buffered`, emit nothing and change nothing but the decoder's own registers, and the bytes held are
those fed; feeding exactly the n-th operand byte runs one handler, once, on the n operand bytes in arrival order, in a
state that is back in stage `OPCODE` with `req = 1` and `cnt = 0`. -/
def Obligations.NthByteRunsTheHandlerOnce : Prop :=
  ∀ (s : State) (op : Byte) (n : Nat) (ops : List Byte), s.atBoundary → isControl op = true →
    controlCount s.params.ctrlExt op = some n →
    (ops.length < n →
      feedAll (op :: ops) s = .next { s with
        stage := .operand, req := BitVec.ofNat 4 n, curOp := op, cnt := BitVec.ofNat 4 ops.length
        opbuf := Spec.fill s.opbuf 0 ops
        results := s.results ++ List.replicate (ops.length + 1) .buffered }) ∧
    (∀ b : Byte, ops.length + 1 = n →
      ∃ i, command op (ops ++ [b]) = some i ∧ i.opcode = op ∧ i.operands = ops ++ [b] ∧
        feedAll (op :: (ops ++ [b])) s = exec i { s with
          curOp := op, opbuf := Spec.fill s.opbuf 0 (ops ++ [b])
          results := s.results ++ List.replicate n .buffered })

/-- A command with no operand byte executes in the same `feed` as its opcode byte: R115, an inference that the spec marks
as its own, from R110 and R111. -/
def Obligations.NoOperandRunsInSameFeed : Prop :=
  ∀ (s : State) (op : Byte), s.stage = .opcode → operandCount s.params.ctrlExt op = 0 →
    ∃ i, decode s.params.ctrlExt [op] = .ok (i, []) ∧ feed op s = exec i s

/-- Every `feed` returns one result (R113), and after it the decoder is inside a command if the result is `Buffered` and at
a boundary otherwise: R25 and R121, inferences that the spec marks as its own, from R112, R114, R119 and R120. -/
def Obligations.FeedReturnsOneResultAndStaysAligned : Prop :=
  ∀ (s t : State) (b : Byte), s.decoderOk → feed b s = .next t →
    ∃ r, t.results = s.results ++ [r] ∧
      (r = .buffered → t.insideCommand ∧ t.out = s.out) ∧ (r ≠ .buffered → t.atBoundary)

/-- `enqueue` of two sequences in one is `enqueue` of the first and then of the second (R124), from every state. -/
def Obligations.EnqueueOfAppendIsTwoEnqueues : Prop :=
  ∀ (s : State) (a b : List Byte), enqueue (a ++ b) s = Spec.andThen (enqueue a s) (enqueue b)

/-- What one `enqueue` does, to which the statement before reduces every other (R124): of no bytes, nothing; of one byte, what
`feed` of it does, its result handed back unless it is `Buffered`; and one that ends inside a command, begun at a command
boundary, leaves that command buffered, hands back nothing and emits nothing. -/
def Obligations.EnqueueOfOneByteIsFeedWithoutBuffered : Prop :=
  (∀ s : State, enqueue [] s = .next s) ∧
  (∀ (s : State) (b : Byte), enqueue [b] s = Spec.andThen (feed b s) fun t =>
    .next { t with results := s.results ++ Spec.handedBack (t.results.drop s.results.length) }) ∧
  (∀ (s : State) (op : Byte) (n : Nat) (ops : List Byte), s.atBoundary → isControl op = true →
    controlCount s.params.ctrlExt op = some n → ops.length < n →
    enqueue (op :: ops) s = .next { s with
      stage := .operand, req := BitVec.ofNat 4 n, curOp := op, cnt := BitVec.ofNat 4 ops.length
      opbuf := Spec.fill s.opbuf 0 ops })

/-- R125: `cancel` brings the decoder back to stage `OPCODE` and changes nothing else; at a boundary it changes nothing. -/
def Obligations.CancelDropsThePartialCommand : Prop :=
  ∀ (s : State) (rest : List HostOp), s.input = .cancel :: rest →
    step s = .next { s with input := rest, stage := .opcode, req := 1, cnt := 0 } ∧
      (s.atBoundary → step s = .next { s with input := rest })

/-- A command that was begun, and cancelled before its last operand byte, leaves no trace but the contents of `cur_op` and
`opbuf` and its `Buffered` results (R125, R353). -/
def Obligations.CancelledCommandHasNoEffect : Prop :=
  ∀ (s t : State) (op : Byte) (ops : List Byte), s.atBoundary → ops.length < operandCount s.params.ctrlExt op →
    feedAll (op :: ops) s = .next t →
    ∃ u, cancel t = .next u ∧ u.atBoundary ∧
      u = { s with curOp := u.curOp, opbuf := u.opbuf, results := u.results }

/-- R340, R341: the host's reset gives every register of the session its reset value and emits nothing. What it puts into
`opbuf` and into the palette above `2^bpp` is the model's choice (log entries 3 and 5), and so is that it keeps the input
stream and the record (log entry 14). -/
def Obligations.HostResetGivesTheResetState : Prop :=
  ∀ (s : State) (rest : List HostOp), s.input = .reset :: rest →
    ∃ t, step s = .next t ∧ t.out = s.out ∧ t.results = s.results ∧ t.input = rest ∧
      { t with input := [], out := [], results := [], tick := 0 } = State.resetWith s.params

/-! ### Reset and invariants -/

/-- What reset leaves (R43, R340), for every mode table and reset mode. The contents of `opbuf` and of the palette above
`2^bpp` are the model's choice (log entries 3 and 5) and are not stated. -/
def Obligations.ResetLeavesTheSpecValues : Prop :=
  ∀ p : Params, ∃ s, State.resetWith p = s ∧
    s.stage = .opcode ∧ s.req = 1 ∧ s.cnt = 0 ∧ s.curOp = 0 ∧ s.flags = 0 ∧ s.v.cursorAppearance = 1 ∧
    s.mode = p.resetMode ∧ s.modeShadow = false ∧
    (∀ i : Fin 256, i.val < 2 ^ Spec.bits p.resetMode.bitsPerPixel →
      (build p.resetMode.bitsPerPixel)[i.val]? = some (s.palette.get i)) ∧
    s.gcCur = ⟨0, 0⟩ ∧ s.gcOld = ⟨0, 0⟩ ∧ s.gcOldest = ⟨0, 0⟩ ∧ s.origin = ⟨0, 0⟩ ∧ s.text = ⟨0, 0⟩ ∧
    s.v.textFg = Spec.whiteOf s.mode.bitsPerPixel ∧ s.v.gfxFg = Spec.whiteOf s.mode.bitsPerPixel ∧
    s.v.textBg = 0 ∧ s.v.gfxBg = 0 ∧ s.v.gfxFgAction = 0 ∧ s.v.gfxBgAction = 0 ∧
    s.v.tintTextFg = 0xC0 ∧ s.v.tintGfxFg = 0xC0 ∧ s.v.tintTextBg = 0 ∧ s.v.tintGfxBg = 0 ∧
    s.v.gwin.left = 0 ∧ s.v.gwin.bottom = 0 ∧
    s.v.gwin.right.toInt = max (s.mode.unitWidth.toNat : Int) 1 - 1 ∧
    s.v.gwin.top.toInt = max (s.mode.unitHeight.toNat : Int) 1 - 1 ∧
    s.v.twin.left = 0 ∧ s.v.twin.top = 0 ∧
    s.v.twin.right.toInt = max (s.mode.textWidth.toNat : Int) 1 - 1 ∧
    s.v.twin.bottom.toInt = max (s.mode.textHeight.toNat : Int) 1 - 1 ∧ s.out = []

/-- The invariant holds after reset, for every mode table and reset mode (R28, R142, R340). Its decoder part is R25, an
inference that the spec marks as its own. -/
def Obligations.ResetMeetsTheInvariant : Prop := ∀ p : Params, (State.resetWith p).Inv

/-- THE INVARIANT IS KEPT, AND THE MACHINE NEVER STOPS: from every state that meets it, one step, whatever the host's next
move, answers a next state that meets it (R28, R111, R142). Its decoder part is R25, an inference that the spec marks as
its own, from R112 and R114. -/
def Obligations.StepKeepsTheInvariant : Prop :=
  ∀ s : State, s.Inv → ∃ t, step s = .next t ∧ t.Inv

/-- No input whatever stops the machine (R317): for every mode table, every sequence of moves of the host and every number
of steps, the run from reset reaches a state. That this state meets the invariant rests on R25 for its decoder part, an
inference that the spec marks as its own, from R112 and R114. -/
def Obligations.NoInputStopsTheMachine : Prop :=
  ∀ (p : Params) (moves : List HostOp) (k : Nat),
    ∃ t, State.reaches k { State.resetWith p with input := moves } t ∧ t.Inv

/-- What is emitted is never taken back, and the parameters never change: a step only appends to the record, and a
command appends at most one signal: R314, an inference that the spec marks as its own, from the causes of R310. -/
def Obligations.StepAppendsToTheRecord : Prop :=
  (∀ s t : State, step s = .next t → t.params = s.params ∧ s.out <+: t.out ∧ s.results <+: t.results) ∧
  (∀ (i : Instr) (s t : State), exec i s = .next t →
    ∃ ev, t.out = s.out ++ ev ∧ (ev.filter Event.isSignal).length ≤ 1)

/-- R71: a command, and a `feed`, emits `Present` exactly once, as its last emission, if it emitted another request on `REN`
or `TXT`, and otherwise it emits none. -/
def Obligations.PresentIsLastAndOnlyAfterARequest : Prop :=
  ∀ s t : State, ((∃ i, exec i s = .next t) ∨ ∃ b, feed b s = .next t) →
    ∃ ev, (∀ e ∈ ev, e ≠ .ren .present) ∧
      ((∃ e ∈ ev, e.isRequest = true) → t.out = s.out ++ ev ++ [.ren .present]) ∧
      ((∀ e ∈ ev, e.isRequest = false) → t.out = s.out ++ ev)

/-! ### Who writes what -/

/-- R27, R28: only MODE writes the mode, its shadow bit and the palette. -/
def Obligations.OnlyModeWritesModeAndPalette : Prop :=
  ∀ (i : Instr) (s t : State), exec i s = .next t →
    t.mode ≠ s.mode ∨ t.modeShadow ≠ s.modeShadow ∨ t.palette ≠ s.palette →
    ∃ sh n d, i = .mode sh n ∧ modeEntry s.params n = some d

/-- R32, R286: only the print-direction sub-command writes the flags. -/
def Obligations.OnlyPrintdirWritesFlags : Prop :=
  ∀ (i : Instr) (s t : State), exec i s = .next t → t.flags ≠ s.flags →
    ∃ x y p3 p4 p5 p6 p7 p8, i.refined = .vdu23Printdir x y p3 p4 p5 p6 p7 p8 ∧ t.flags = (s.flags &&& y) ^^^ x

/-- R29, R233: nothing but PLOT and MODE writes the history, and nothing but ORIGIN and MODE the origin (R30). -/
def Obligations.OnlyPlotAndModeWriteHistory : Prop :=
  ∀ (i : Instr) (s t : State), exec i s = .next t →
    ((t.gcCur ≠ s.gcCur ∨ t.gcOld ≠ s.gcOld ∨ t.gcOldest ≠ s.gcOldest) → i.opcode = 25 ∨ i.opcode = 22) ∧
    (t.origin ≠ s.origin → i.opcode = 29 ∨ i.opcode = 22)

/-- Which commands write which slots of the variable table (R33 to R38). -/
def Obligations.OnlyNamedCommandsWriteSlots : Prop :=
  ∀ (i : Instr) (s t : State), exec i s = .next t → i.opcode ≠ 22 →
    (t.v.textFg ≠ s.v.textFg ∨ t.v.textBg ≠ s.v.textBg → i.opcode = 17) ∧
    (t.v.gfxFg ≠ s.v.gfxFg ∨ t.v.gfxBg ≠ s.v.gfxBg ∨ t.v.gfxFgAction ≠ s.v.gfxFgAction ∨
      t.v.gfxBgAction ≠ s.v.gfxBgAction → i.opcode = 18) ∧
    (t.v.tintTextFg ≠ s.v.tintTextFg ∨ t.v.tintTextBg ≠ s.v.tintTextBg ∨ t.v.tintGfxFg ≠ s.v.tintGfxFg ∨
      t.v.tintGfxBg ≠ s.v.tintGfxBg → i.opcode = 23) ∧
    (t.v.gwin ≠ s.v.gwin → i.opcode = 24) ∧ (t.v.twin ≠ s.v.twin → i.opcode = 28) ∧
    (t.v.cursorAppearance ≠ s.v.cursorAppearance → i.opcode = 23)

/-! ### Text commands -/

/-- NUL has no effect (R210); BEL emits `Bell` and `Present` (R211). -/
def Obligations.NulAndBelResults : Prop :=
  ∀ s : State,
    exec .nul s = .next (Spec.done s 0 [] .handled []) ∧
    exec .bel s = .next (Spec.done s 7 [] .handled [.txt .bell, .ren .present])

/-- LF takes one line step (R197, R212), for every flag value, window and cursor. -/
def Obligations.LineFeedTakesOneLineStep : Prop :=
  ∀ (s : State) (c : Cell) (ev : List Event), Spec.lineStep s.flags s.v.twin s.text = (c, ev) →
    exec .lf s = .next { Spec.done s 10 [] .handled (ev ++ if ev = [] then [] else [.ren .present]) with text := c }

/-- CLS asks for the text area to be cleared and sends the cursor home (R198, R213). -/
def Obligations.ClearTextSendsCursorHome : Prop :=
  ∀ s : State,
    exec .cls s = .next { Spec.done s 12 [] .handled [.txt .clearText, .ren .present] with
      text := Spec.home s.flags s.v.twin }

/-- CR goes to the start edge of the advance axis, whatever the multiplier, and emits nothing (R214). -/
def Obligations.CarriageReturnGoesToStartEdge : Prop :=
  ∀ s : State,
    exec .cr s = .next { Spec.done s 13 [] .handled [] with text := Spec.carriage s.flags s.v.twin s.text }

/-- TAB stores both bytes as given (R215). -/
def Obligations.TabStoresBothBytes : Prop :=
  ∀ (c r : Byte) (s : State),
    exec (.tab c r) s = .next { Spec.done s 31 [c, r] .handled [] with
      text := ⟨BitVec.ofNat 16 c.toNat, BitVec.ofNat 16 r.toNat⟩ }

/-- CHAR and UDG send the code with the cursor before the advance, then advance (R199, R216, R218), for every flag value,
window and cursor. -/
def Obligations.PrintingSendsCodeThenAdvances : Prop :=
  ∀ (b : Byte) (s : State) (c : Cell) (ev : List Event), Spec.advance s.flags s.v.twin s.text = (c, ev) →
    exec (.char b) s = .next { Spec.done s b [] .handled
      (.txt (.putChar b s.text.col s.text.row) :: ev ++ [.ren .present]) with text := c } ∧
    exec (.udg b) s = .next { Spec.done s b [] .handled
      (.txt (.putChar b s.text.col s.text.row) :: ev ++ [.ren .present]) with text := c }

/-- DEL steps back, then asks for the cell it came to to be deleted (R200, R217). -/
def Obligations.DeleteStepsBackThenDeletes : Prop :=
  ∀ (s : State) (c : Cell), Spec.backStep s.flags s.v.twin s.text = c →
    exec .del s = .next { Spec.done s 127 [] .handled [.txt (.deleteChar c.col c.row), .ren .present] with text := c }

/-- Inside a line, printing and then deleting brings the cursor back where it was (R199, R200), for every flag value, so in
each of the eight directions: the advance axis is the row axis when bit 3 is set and the column axis otherwise, and the
cursor stands on it within the window, before the last cell in the direction of the advance. -/
def Obligations.DeleteUndoesAnAdvance : Prop :=
  ∀ (f : Byte) (w : Window) (c : Cell),
    (f.getLsbD 3 = false → Spec.insideLine w.left w.right (Spec.hsign f) c.col) →
    (f.getLsbD 3 = true → Spec.insideLine w.top w.bottom (Spec.vsign f) c.row) →
    backStep f w (advanceAfterPrint f w c).cell = c

/-- The decoded vectors of the flags (R191): bit 1 signs the horizontal one, bit 2 the vertical one, bit 3 says which of the
two is the advance, bit 5 makes both zero, and bits 7, 4 and 0 change nothing. -/
def Obligations.FlagVectorsMatchTheTable : Prop :=
  ∀ f : Byte,
    (f.getLsbD 5 = true → decodeFlags f = ⟨⟨.zero, .zero⟩, ⟨.zero, .zero⟩, true, f.getLsbD 6⟩) ∧
    (f.getLsbD 5 = false → f.getLsbD 3 = false →
      decodeFlags f = ⟨⟨Spec.dir (Spec.hsign f), .zero⟩, ⟨.zero, Spec.dir (Spec.vsign f)⟩, false, f.getLsbD 6⟩) ∧
    (f.getLsbD 5 = false → f.getLsbD 3 = true →
      decodeFlags f = ⟨⟨.zero, Spec.dir (Spec.vsign f)⟩, ⟨Spec.dir (Spec.hsign f), .zero⟩, false, f.getLsbD 6⟩)

/-! ### Colours -/

/-- COLOUR writes one text slot, and leaves the other (R170). -/
def Obligations.ColourSetsOneTextSlot : Prop :=
  ∀ (c : Byte) (s : State),
    (128 ≤ c.toNat → exec (.colour (topBit c) (lowSeven c)) s = .next { Spec.done s 17 [c] .handled [] with
      v := { s.v with textBg := BitVec.ofNat 7 (c.toNat - 128) } }) ∧
    (c.toNat < 128 → exec (.colour (topBit c) (lowSeven c)) s = .next { Spec.done s 17 [c] .handled [] with
      v := { s.v with textFg := BitVec.ofNat 7 c.toNat } })

/-- GCOL writes the colour and the action of one side, and leaves the other side (R172). -/
def Obligations.GcolSetsOneSide : Prop :=
  ∀ (a c : Byte) (s : State),
    (128 ≤ c.toNat → exec (.gcol a (topBit c) (lowSeven c)) s = .next { Spec.done s 18 [a, c] .handled [] with
      v := { s.v with gfxBg := BitVec.ofNat 7 (c.toNat - 128), gfxBgAction := a } }) ∧
    (c.toNat < 128 → exec (.gcol a (topBit c) (lowSeven c)) s = .next { Spec.done s 18 [a, c] .handled [] with
      v := { s.v with gfxFg := BitVec.ofNat 7 c.toNat, gfxFgAction := a } })

/-- PALETTE consumes its operands, leaves the palette, and raises `UnsupportedOperation(19, none)` (R174). -/
def Obligations.PaletteCommandLeavesThePalette : Prop :=
  ∀ (l p r g b : Byte) (s : State),
    exec (.palette l p r g b) s =
      .next (Spec.done s 19 [l, p, r, g, b] .unsupported [.sig (.unsupportedOperation 19 none)])

/-- The 256-colour palette (R164): every channel is a multiple of 17, no two entries are equal (R167 (c), an
inference that the spec marks as its own), and each entry has the levels that the bits of its index give. -/
def Obligations.EightBitPaletteIsExact : Prop :=
  (build .bpp8).length = 256 ∧ (build .bpp8).Nodup ∧
  ∀ (i : Nat) (c : Colour), (build .bpp8)[i]? = some c →
    c.r.toNat = 17 * (i % 8 + 8 * (i / 16 % 2)) ∧
    c.g.toNat = 17 * (i % 4 + 4 * (i / 32 % 4)) ∧
    c.b.toNat = 17 * (i % 4 + 4 * (i / 8 % 2) + 8 * (i / 128))

/-- The palettes below 8 bits per pixel, entry by entry, as physical colours (R161 to R163, R165): their black and white are
those of the 8-bit palette. -/
def Obligations.SmallPalettesAreExact : Prop :=
  build .bpp1 = [⟨0, 0, 0⟩, ⟨255, 255, 255⟩] ∧
  build .bpp2 = [⟨0, 0, 0⟩, ⟨255, 0, 0⟩, ⟨255, 255, 0⟩, ⟨255, 255, 255⟩] ∧
  build .bpp4 =
    [⟨0, 0, 0⟩, ⟨255, 0, 0⟩, ⟨0, 255, 0⟩, ⟨255, 255, 0⟩, ⟨0, 0, 255⟩, ⟨255, 0, 255⟩, ⟨0, 255, 255⟩, ⟨255, 255, 255⟩,
     ⟨0, 0, 0⟩, ⟨255, 0, 0⟩, ⟨0, 255, 0⟩, ⟨255, 255, 0⟩, ⟨0, 0, 255⟩, ⟨255, 0, 255⟩, ⟨0, 255, 255⟩, ⟨255, 255, 255⟩] ∧
  (build .bpp8)[0]? = some ⟨0, 0, 0⟩ ∧ (build .bpp8)[255]? = some ⟨255, 255, 255⟩

/-- R166: the index of every logical colour and tint, which is always a valid one, and the colour that they resolve to. -/
def Obligations.ColourResolvesThroughTheFormula : Prop :=
  (∀ (d : Depth) (logical tint : Byte),
    (colourIndex d logical tint).toNat = Spec.index d logical.toNat tint.toNat ∧
      (colourIndex d logical tint).toNat < 2 ^ Spec.bits d) ∧
  (∀ (s : State) (logical : Logical) (tint : Byte),
    Spec.resolve s logical tint = some (s.resolveColour (logical.setWidth 8) tint))

/-- R167 (d): at 8 bpp the map from the low six bits of a logical colour and the top two bits of a tint to the index is a
bijection onto 0 to 255: an inference that the spec marks as its own, from R166. -/
def Obligations.TintedIndexIsABijection : Prop :=
  (∀ l l' t t' : Byte, colourIndex .bpp8 l t = colourIndex .bpp8 l' t' →
    l.toNat % 64 = l'.toNat % 64 ∧ t.toNat / 64 = t'.toNat / 64) ∧
  (∀ k : Byte, ∃ l t : Byte, l.toNat < 64 ∧ colourIndex .bpp8 l t = k)

/-- Right after a mode is activated, the foreground resolves to white and the background to black, in every depth: a
property that R147 marks as derived, from R146 and R166. -/
def Obligations.ActivatedColoursAreWhiteOnBlack : Prop :=
  ∀ (s : State) (d : ModeDesc) (sh : Bool), ∃ t, t = s.activateMode d sh ∧
    Spec.resolve t t.v.gfxFg t.v.tintGfxFg = some ⟨255, 255, 255⟩ ∧
    Spec.resolve t t.v.gfxBg t.v.tintGfxBg = some ⟨0, 0, 0⟩ ∧
    Spec.resolve t t.v.textFg t.v.tintTextFg = some ⟨255, 255, 255⟩ ∧
    Spec.resolve t t.v.textBg t.v.tintTextBg = some ⟨0, 0, 0⟩

/-! ### Screen modes -/

/-- A mapped MODE activates its descriptor (R146, R148): everything it writes, and nothing else. The palette above `2^bpp`
is free (log entry 4). -/
def Obligations.MappedModeIsActivated : Prop :=
  ∀ (s : State) (sh : Bool) (n : ModeNumber) (d : ModeDesc), modeEntry s.params n = some d →
    ∃ pal : Vector Colour 256,
      (∀ i : Fin 256, i.val < 2 ^ Spec.bits d.bitsPerPixel → (build d.bitsPerPixel)[i.val]? = some (pal.get i)) ∧
      exec (.mode sh n) s =
        .next { Spec.done s 22 [splitByte sh n] .handled [.ren (.modeChanged d sh), .ren .present] with
          mode := d, modeShadow := sh, palette := pal
          gcCur := ⟨0, 0⟩, gcOld := ⟨0, 0⟩, gcOldest := ⟨0, 0⟩, origin := ⟨0, 0⟩
          text := Spec.home s.flags
            ⟨0, BitVec.ofNat 16 (max d.textHeight.toNat 1 - 1), BitVec.ofNat 16 (max d.textWidth.toNat 1 - 1), 0⟩
          v := { textFg := Spec.whiteOf d.bitsPerPixel, textBg := 0
                 gfxFg := Spec.whiteOf d.bitsPerPixel, gfxBg := 0, gfxFgAction := 0, gfxBgAction := 0
                 tintTextFg := 0xC0, tintTextBg := 0, tintGfxFg := 0xC0, tintGfxBg := 0
                 gwin := ⟨0, 0, BitVec.ofNat 16 (max d.unitWidth.toNat 1 - 1),
                   BitVec.ofNat 16 (max d.unitHeight.toNat 1 - 1)⟩
                 twin := ⟨0, BitVec.ofNat 16 (max d.textHeight.toNat 1 - 1),
                   BitVec.ofNat 16 (max d.textWidth.toNat 1 - 1), 0⟩
                 cursorAppearance := s.v.cursorAppearance } }

/-- An unmapped MODE raises `NoSuchScreenMode` with the masked number and changes nothing (R148, R149). -/
def Obligations.UnmappedModeChangesNothing : Prop :=
  ∀ (s : State) (sh : Bool) (n : ModeNumber), modeEntry s.params n = none →
    exec (.mode sh n) s =
      .next (Spec.done s 22 [splitByte sh n] .noSuchMode [.sig (.noSuchScreenMode n)])

/-- R143, R144: the shadow-bank bit does not affect the lookup, and a descriptor that is found has the masked number. -/
def Obligations.ShadowBitDoesNotAffectLookup : Prop :=
  ∀ (p : Params) (n : Byte),
    resolveMode p (n ||| 0x80) = resolveMode p n ∧
    (∀ d, resolveMode p n = .found d → d.id.toNat = n.toNat % 128 ∧ d ∈ p.resetMode :: p.otherModes) ∧
    (∀ m, resolveMode p n = .noSuchMode m → m.toNat = n.toNat % 128 ∧
      ∀ d ∈ p.resetMode :: p.otherModes, d.id ≠ m)

/-- A mapped MODE forgets (R146, R355). Two sessions with one mode table, equal flags and equal cursor appearance agree after it on
the mode, the valid palette, the cursors, the origin and the variable table, whatever they held before. -/
def Obligations.ModeForgetsWhatWasBefore : Prop :=
  ∀ (s1 s2 t1 t2 : State) (sh : Bool) (n : ModeNumber) (d : ModeDesc), s1.params = s2.params → s1.flags = s2.flags →
    s1.v.cursorAppearance = s2.v.cursorAppearance → modeEntry s1.params n = some d →
    exec (.mode sh n) s1 = .next t1 → exec (.mode sh n) s2 = .next t2 →
    t1.mode = t2.mode ∧ t1.modeShadow = t2.modeShadow ∧ t1.gcCur = t2.gcCur ∧ t1.gcOld = t2.gcOld ∧
      t1.gcOldest = t2.gcOldest ∧ t1.origin = t2.origin ∧ t1.text = t2.text ∧ t1.v = t2.v ∧ t1.flags = t2.flags ∧
      (∀ i : Fin 256, i.val < paletteSize d.bitsPerPixel → t1.palette.get i = t2.palette.get i) ∧
      (∀ logical tint, t1.resolveColour logical tint = t2.resolveColour logical tint)

/-- R145: the pixel aspect is the exact quotient of the unit sizes over the pixel sizes, and 1 for a text-only mode; its
denominator is never zero. -/
def Obligations.PixelAspectIsExact : Prop :=
  ∀ d : ModeDesc, (pixelAspect d).2 ≠ 0 ∧
    ((d.pixelWidth = 0 ∨ d.pixelHeight = 0) → ((pixelAspect d).1 : ℚ) / (pixelAspect d).2 = 1) ∧
    (d.pixelWidth ≠ 0 → d.pixelHeight ≠ 0 → ((pixelAspect d).1 : ℚ) / (pixelAspect d).2 =
      ((d.unitHeight.toNat : ℚ) / d.pixelHeight.toNat) / ((d.unitWidth.toNat : ℚ) / d.pixelWidth.toNat))

/-! ### Windows and origin -/

/-- GWINDOW, TWINDOW and ORIGIN store their words, unvalidated, where R262, R264 and R266 say, and nothing else. -/
def Obligations.WindowAndOriginStores : Prop :=
  ∀ (l0 l1 b0 b1 r0 r1 t0 t1 : Byte) (s : State),
    exec (.gwindow (le16 l0 l1) (le16 b0 b1) (le16 r0 r1) (le16 t0 t1)) s =
      .next { Spec.done s 24 [l0, l1, b0, b1, r0, r1, t0, t1] .handled [] with
        v := { s.v with gwin := ⟨le16 l0 l1, le16 b0 b1, le16 r0 r1, le16 t0 t1⟩ } } ∧
    exec (.twindow (le16 l0 l1) (le16 b0 b1) (le16 r0 r1) (le16 t0 t1)) s =
      .next { Spec.done s 28 [l0, l1, b0, b1, r0, r1, t0, t1] .handled [] with
        v := { s.v with twin := ⟨le16 l0 l1, le16 b0 b1, le16 r0 r1, le16 t0 t1⟩ } } ∧
    exec (.origin (le16 l0 l1) (le16 b0 b1)) s =
      .next { Spec.done s 29 [l0, l1, b0, b1] .handled [] with origin := ⟨le16 l0 l1, le16 b0 b1⟩ }

/-- R7, R65: a word operand is the signed 16-bit number whose low byte comes first. -/
def Obligations.WordOperandsAreLittleEndian : Prop :=
  ∀ lo hi : Byte,
    (le16 lo hi).toInt =
      (if hi.toNat * 256 + lo.toNat < 32768 then (hi.toNat * 256 + lo.toNat : Int)
       else (hi.toNat * 256 + lo.toNat : Int) - 65536) ∧
    loByte (le16 lo hi) = lo ∧ hiByte (le16 lo hi) = hi

/-! ### VDU23 -/

/-- CURSOR stores its byte (R284), SCROLL forwards its three bytes (R285), PRINTDIR keeps and then toggles flag bits (R286);
the bytes that a sub-command does not read have no effect. -/
def Obligations.CursorScrollPrintdirResults : Prop :=
  ∀ (p1 p2 p3 p4 p5 p6 p7 p8 : Byte) (s : State),
    (∀ i ∈ [Instr.vdu23Cursor p1 p2 p3 p4 p5 p6 p7 p8, .vdu23 1 p1 p2 p3 p4 p5 p6 p7 p8],
      exec i s = .next { Spec.done s 23 [1, p1, p2, p3, p4, p5, p6, p7, p8] .handled [] with
        v := { s.v with cursorAppearance := p1 } }) ∧
    (∀ i ∈ [Instr.vdu23Scroll p1 p2 p3 p4 p5 p6 p7 p8, .vdu23 7 p1 p2 p3 p4 p5 p6 p7 p8],
      exec i s = .next (Spec.done s 23 [7, p1, p2, p3, p4, p5, p6, p7, p8] .handled
        [.ren (.scrollBlock p1 p2 p3), .ren .present])) ∧
    (∀ i ∈ [Instr.vdu23Printdir p1 p2 p3 p4 p5 p6 p7 p8, .vdu23 16 p1 p2 p3 p4 p5 p6 p7 p8],
      exec i s = .next { Spec.done s 23 [16, p1, p2, p3, p4, p5, p6, p7, p8] .handled [] with
        flags := (s.flags &&& p2) ^^^ p1 })

/-- TINT stores its value in the slot that the selector names, for the four selectors (R287). -/
def Obligations.TintStoresInSelectedSlot : Prop :=
  ∀ (n v p3 p4 p5 p6 p7 p8 : Byte) (s : State), n.toNat < 4 →
    ∀ i ∈ [Instr.vdu23Tint n v p3 p4 p5 p6 p7 p8, .vdu23 17 n v p3 p4 p5 p6 p7 p8],
    exec i s =
      .next { Spec.done s 23 [17, n, v, p3, p4, p5, p6, p7, p8] .handled [] with
        v := { s.v with
          tintTextFg := if n = 0 then v else s.v.tintTextFg
          tintTextBg := if n = 1 then v else s.v.tintTextBg
          tintGfxFg := if n = 2 then v else s.v.tintGfxFg
          tintGfxBg := if n = 3 then v else s.v.tintGfxBg } }

/-- A tint selector of 4 or more, and every sub-code but the four, raises `ProtocolError(23, sub)` with the whole command
consumed and no state changed (R287, R288). -/
def Obligations.BadSubCodeChangesNothing : Prop :=
  (∀ (n v p3 p4 p5 p6 p7 p8 : Byte) (s : State), 4 ≤ n.toNat →
    ∀ i ∈ [Instr.vdu23Tint n v p3 p4 p5 p6 p7 p8, .vdu23 17 n v p3 p4 p5 p6 p7 p8],
    exec i s =
      .next (Spec.done s 23 [17, n, v, p3, p4, p5, p6, p7, p8] .badSubCode [.sig (.protocolError 23 (some 17))])) ∧
  (∀ (sub p1 p2 p3 p4 p5 p6 p7 p8 : Byte) (s : State), sub ≠ 1 → sub ≠ 7 → sub ≠ 16 → sub ≠ 17 →
    ∀ i ∈ [Instr.vdu23Reserved sub p1 p2 p3 p4 p5 p6 p7 p8, .vdu23 sub p1 p2 p3 p4 p5 p6 p7 p8],
    exec i s =
      .next (Spec.done s 23 [sub, p1, p2, p3, p4, p5, p6, p7, p8] .badSubCode
        [.sig (.protocolError 23 (some sub))]))

/-- The rows that refine opcodes 23 and 25 give each of their commands the meaning that the handlers of R280 and R234
give it. With the statements about the refined rows, this is the result of `vdu23` and of `plot` as a whole; both always
complete. -/
def Obligations.WholeCommandsAgreeWithTheirRefinement : Prop :=
  (∀ (sub p1 p2 p3 p4 p5 p6 p7 p8 : Byte) (s : State), ∃ t,
    exec (.vdu23 sub p1 p2 p3 p4 p5 p6 p7 p8) s = .next t ∧
      exec (vdu23Refined sub p1 p2 p3 p4 p5 p6 p7 p8) s = .next t ∧
      ∃ o, t.results = s.results ++ [.completed 23 [sub, p1, p2, p3, p4, p5, p6, p7, p8] o]) ∧
  (∀ (k : Byte) (x y : S16) (s : State), ∃ t,
    exec (.plot k x y) s = .next t ∧ exec (plotRefined k x y) s = .next t ∧
      ∃ o, t.results = s.results ++ [.completed 25 [k, loByte x, hiByte x, loByte y, hiByte y] o])

/-! ### Control codes with no table entry -/

/-- R300, R302: each of the seventeen codes, without an entry in `CTRL_EXT`, is discarded with `ProtocolError`, and nothing
else changes; with one, it is consumed with its operands and raises `UnsupportedOperation`. -/
def Obligations.UnlistedControlCodes : Prop :=
  ∀ row ∈ Spec.unlisted, ∀ (ops : List Byte) (s : State),
    (controlCount s.params.ctrlExt row.1 = none →
      exec (row.2 ops) s = .next { s with
        out := s.out ++ [.sig (.protocolError row.1 none)], results := s.results ++ [.rejected row.1] }) ∧
    (∀ n, controlCount s.params.ctrlExt row.1 = some n →
      exec (row.2 ops) s = .next (Spec.done s row.1 ops .unsupported [.sig (.unsupportedOperation row.1 none)]))

/-- R83, R84, R119: with `CTRL_EXT` empty, feeding one of the seventeen codes at a boundary discards that one byte and
nothing else happens; the fifteen others are in the table. -/
def Obligations.UnlistedByteIsDiscardedAlone : Prop :=
  ∀ (s : State) (b : Byte), s.stage = .opcode → s.params.ctrlExt = [] → b.toNat < 32 →
    (b.toNat ∉ [0, 7, 10, 12, 13, 17, 18, 19, 22, 23, 24, 25, 28, 29, 31] →
      feed b s = .next { s with
        out := s.out ++ [.sig (.protocolError b none)], results := s.results ++ [.rejected b] }) ∧
    (b.toNat ∈ [0, 7, 10, 12, 13, 17, 18, 19, 22, 23, 24, 25, 28, 29, 31] →
      ∃ t, feed b s = .next t ∧ .rejected b ∉ t.results.drop s.results.length)

/-! ### PLOT -/

/-- R233, R236: every PLOT command, in each of its 32 forms, whatever its effect, shifts the history by the new point and
writes no other register. -/
def Obligations.EveryPlotShiftsTheHistory : Prop :=
  ∀ form ∈ Spec.supported.map (·.1) ++ Spec.unsupported.map (·.1),
    ∀ (absolute : Bool) (e : PlotEffect) (x y : S16) (s : State), ∃ t,
      exec (form absolute e x y) s = .next t ∧
      t = { Spec.shifted s (Spec.newPoint absolute x y s.gcCur) with
        out := t.out, results := t.results, tick := t.tick }

/-- R241: with the effect Move, every form only shifts the history: no request, no signal, no `Present`. -/
def Obligations.PlotMoveOnlyMoves : Prop :=
  ∀ row ∈ Spec.supported.map (fun r => (r.1, r.2.1)) ++ Spec.unsupported, ∀ (absolute : Bool) (x y : S16) (s : State),
    ∀ i ∈ [row.1 absolute .move x y, .plot (plotCode row.2 absolute .move) x y],
    exec i s =
      .next (Spec.done (Spec.shifted s (Spec.newPoint absolute x y s.gcCur)) 25
        (Spec.plotOperands row.2 absolute .move x y) .handled [])

/-- R234, R237, R239: with a drawing effect, a form that the primitive table maps emits its one request, with the points of
the history after the shift, the resolved colour and the action of the side, and then `Present`. -/
def Obligations.PlotDrawsSupportedPrimitives : Prop :=
  ∀ row ∈ Spec.supported, ∀ (absolute : Bool) (e : PlotEffect) (x y : S16) (s : State)
    (de : DrawEffect) (colour : Option Colour) (action : Byte), Spec.drawingColour s e = some (de, colour, action) →
    ∀ i ∈ [row.1 absolute e x y, .plot (plotCode row.2.1 absolute e) x y],
    exec i s =
      .next (Spec.done (Spec.shifted s (Spec.newPoint absolute x y s.gcCur)) 25
        (Spec.plotOperands row.2.1 absolute e x y) .handled
        [.ren (row.2.2 s.gcOld s.gcCur (Spec.newPoint absolute x y s.gcCur) de action colour), .ren .present])

/-- R238: with a drawing effect, a form that the primitive table maps to `Unsupported` raises the signal after the history
has shifted, and emits no request. -/
def Obligations.PlotReportsUnsupportedPrimitives : Prop :=
  ∀ row ∈ Spec.unsupported, ∀ (absolute : Bool) (e : PlotEffect) (x y : S16) (s : State), e ≠ .move →
    ∀ i ∈ [row.1 absolute e x y, .plot (plotCode row.2 absolute e) x y],
    exec i s =
      .next (Spec.done (Spec.shifted s (Spec.newPoint absolute x y s.gcCur)) 25
        (Spec.plotOperands row.2 absolute e x y) .unsupported [.sig (.unsupportedOperation 25 (some row.2))])
end

