-- ==== Sys2Proof/Laws/Decode.lean ====
section
/-! SUPPORT. How many operand bytes an opcode takes, and what the classes of opcodes exclude. -/

namespace Sys2Proof.Machine

/-- An opcode above 31 takes no operand (R82). -/
theorem operandCount_glyph (ext : CtrlExt) {op : Byte} (h : isControl op = false) : operandCount ext op = 0 := by
  simp [operandCount, h]

/-- The operand count of a control code is that of its entry (R82). -/
theorem operandCount_control (ext : CtrlExt) {op : Byte} (h : isControl op = true) :
    operandCount ext op = (controlCount ext op).getD 0 := by
  simp [operandCount, h]

/-- No entry has more than nine operands (R80). -/
theorem controlCount_le_nine (ext : CtrlExt) (op : Byte) (n : Nat) (h : controlCount ext op = some n) : n ≤ 9 := by
  unfold controlCount at h
  split at h
  · rename_i m hm
    obtain rfl : m = n := by simpa using h
    have key : ∀ b : Byte, (controlTable.lookup b).getD 0 ≤ 9 := by decide +kernel
    simpa [hm] using key op
  · obtain ⟨k, -, rfl⟩ := Option.map_eq_some_iff.mp h
    omega

/-- No opcode takes more than nine operands (R80). -/
theorem operandCount_le_nine (ext : CtrlExt) (op : Byte) : operandCount ext op ≤ 9 := by
  unfold operandCount
  split
  · cases h : controlCount ext op with
    | none => simp
    | some n => simpa using controlCount_le_nine ext op n h
  · simp

/-- A printable code is no control code (R82). -/
theorem isControl_of_isPrintable {op : Byte} (h : isPrintable op = true) : isControl op = false := by
  simp only [isPrintable, decide_eq_true_eq] at h
  simp only [isControl, decide_eq_false_iff_not]
  omega

/-- A user-defined glyph is no control code (R82). -/
theorem isControl_of_isUdg {op : Byte} (h : isUdg op = true) : isControl op = false := by
  simp only [isUdg, decide_eq_true_eq] at h
  simp only [isControl, decide_eq_false_iff_not]
  omega

/-- An opcode above 31 that is neither 127 nor a user-defined glyph is printable (R82, R85). -/
theorem isPrintable_of_rest {op : Byte} (hc : isControl op = false) (hd : op ≠ 127) (hu : isUdg op = false) :
    isPrintable op = true := by
  have h127 : op.toNat ≠ 127 := fun h => hd (BitVec.eq_of_toNat_eq h)
  simp only [isUdg, isControl, isPrintable, decide_eq_false_iff_not, decide_eq_true_eq] at *
  omega

end Sys2Proof.Machine
end

