-- ==== Sys2Proof/Laws/Motion.lean ====
section
/-! SUPPORT. The flag decoder and the text-cursor motion: everything each can do, said once. -/

namespace Sys2Proof.Machine

@[simp] theorem cellPos_cellSet (c : Cell) (v : S16) (a : Axis) : cellPos (cellSet c v a) a = v := by cases a <;> rfl

/-- Setting one axis of a cell leaves the other. -/
theorem cellPos_cellSet_ne (c : Cell) (v : S16) {a b : Axis} (h : a ≠ b) : cellPos (cellSet c v a) b = cellPos c b := by
  cases a <;> cases b <;> first | exact absurd rfl h | rfl

/-- The two axes are different (R196). -/
theorem advAxis_ne_lineAxis (f : Byte) : advAxis f ≠ lineAxis f := by
  unfold advAxis lineAxis
  cases transposed f <;> simp

/-- What a line step does (R197): nothing, one step, or the last line and a scroll request. -/
theorem lineStep_cases (f : Byte) (w : Window) (c : Cell) :
    (moving f = false ∧ lineStep f w c = ⟨c, []⟩) ∨
    (moving f = true ∧ beyond w (lineAxis f) (eolSign f) (cellPos c (lineAxis f) + (eolSign f).step) = false ∧
      lineStep f w c = ⟨cellSet c (cellPos c (lineAxis f) + (eolSign f).step) (lineAxis f), []⟩) ∨
    (moving f = true ∧ beyond w (lineAxis f) (eolSign f) (cellPos c (lineAxis f) + (eolSign f).step) = true ∧
      lineStep f w c = ⟨cellSet c (winEnd w (lineAxis f) (eolSign f)) (lineAxis f),
        [.txt (.scrollRequest (decodeFlags f).eol)]⟩) := by
  unfold lineStep
  cases hm : moving f
  · exact .inl ⟨rfl, rfl⟩
  · cases hb : beyond w (lineAxis f) (eolSign f) (cellPos c (lineAxis f) + (eolSign f).step)
    · exact .inr (.inl ⟨rfl, rfl, by simp [hb]⟩)
    · exact .inr (.inr ⟨rfl, rfl, by simp [hb]⟩)

/-- A line step emits nothing or one scroll request (R197). -/
theorem lineStep_events (f : Byte) (w : Window) (c : Cell) :
    (lineStep f w c).events = [] ∨ (lineStep f w c).events = [.txt (.scrollRequest (decodeFlags f).eol)] := by
  rcases lineStep_cases f w c with ⟨-, h⟩ | ⟨-, -, h⟩ | ⟨-, -, h⟩ <;> simp [h]

/-- What an advance does (R199): nothing, one step, or the start of the line and a line step. -/
theorem advance_cases (f : Byte) (w : Window) (c : Cell) :
    (moving f = false ∧ advanceAfterPrint f w c = ⟨c, []⟩) ∨
    (moving f = true ∧ beyond w (advAxis f) (advSign f) (cellPos c (advAxis f) + (advSign f).step) = false ∧
      advanceAfterPrint f w c = ⟨cellSet c (cellPos c (advAxis f) + (advSign f).step) (advAxis f), []⟩) ∨
    (moving f = true ∧ beyond w (advAxis f) (advSign f) (cellPos c (advAxis f) + (advSign f).step) = true ∧
      advanceAfterPrint f w c = lineStep f w (cellSet c (winStart w (advAxis f) (advSign f)) (advAxis f))) := by
  unfold advanceAfterPrint
  cases hm : moving f
  · exact .inl ⟨rfl, rfl⟩
  · cases hb : beyond w (advAxis f) (advSign f) (cellPos c (advAxis f) + (advSign f).step)
    · exact .inr (.inl ⟨rfl, rfl, by simp [hb]⟩)
    · exact .inr (.inr ⟨rfl, rfl, by simp [hb]⟩)

/-- An advance emits nothing or one scroll request (R199). -/
theorem advance_events (f : Byte) (w : Window) (c : Cell) :
    (advanceAfterPrint f w c).events = [] ∨
      (advanceAfterPrint f w c).events = [.txt (.scrollRequest (decodeFlags f).eol)] := by
  rcases advance_cases f w c with ⟨-, h⟩ | ⟨-, -, h⟩ | ⟨-, -, h⟩
  · simp [h]
  · simp [h]
  · rw [h]
    exact lineStep_events f w _

/-- What a back step does (R200): nothing, one step back, the end of the line before, or nothing on the first line. -/
theorem backStep_cases (f : Byte) (w : Window) (c : Cell) :
    let a := cellPos c (advAxis f) - (advSign f).step
    let e := cellPos c (lineAxis f) - (eolSign f).step
    (moving f = false ∧ backStep f w c = c) ∨
    (moving f = true ∧ beyond w (advAxis f) (advSign f).opposite a = false ∧
      backStep f w c = cellSet c a (advAxis f)) ∨
    (moving f = true ∧ beyond w (advAxis f) (advSign f).opposite a = true ∧
      beyond w (lineAxis f) (eolSign f).opposite e = true ∧ backStep f w c = c) ∨
    (moving f = true ∧ beyond w (advAxis f) (advSign f).opposite a = true ∧
      beyond w (lineAxis f) (eolSign f).opposite e = false ∧
      backStep f w c = cellSet (cellSet c (winEnd w (advAxis f) (advSign f)) (advAxis f)) e (lineAxis f)) := by
  intro a e
  unfold backStep
  cases hm : moving f
  · exact .inl ⟨rfl, rfl⟩
  · cases ha : beyond w (advAxis f) (advSign f).opposite a
    · exact .inr (.inl ⟨rfl, rfl, by simp [a, ha]⟩)
    · cases he : beyond w (lineAxis f) (eolSign f).opposite e
      · exact .inr (.inr (.inr ⟨rfl, rfl, rfl, by simp [a, e, ha, he]⟩))
      · exact .inr (.inr (.inl ⟨rfl, rfl, rfl, by simp [a, e, ha, he]⟩))

end Sys2Proof.Machine
end

