-- ==== Sys2Proof/Laws/Palette.lean ====
section
/-! SUPPORT. The palette engine and the mode lookup: what each can answer, said once. -/

namespace Sys2Proof.Machine

/-- `build(bpp)` has `2^bpp` entries (R160). -/
theorem build_length (d : Depth) : (build d).length = paletteSize d := by
  cases d <;> simp [build, rainbow, paletteSize, depthBits]

/-- A valid entry of the palette RAM is the one of `build`; the others are those given for the rest (R28). -/
theorem paletteRam_get (d : Depth) (rest : Nat → Colour) (i : Fin 256) :
    (paletteRam d rest).get i = (build d).getD i.val (rest i.val) := by
  change (paletteRam d rest)[i.val] = _
  simp only [paletteRam, Vector.getElem_ofFn]

/-- A valid entry of the palette RAM (R28, R146). -/
theorem paletteRam_valid (d : Depth) (rest : Nat → Colour) (i : Fin 256) (h : i.val < paletteSize d) :
    (build d)[i.val]? = some ((paletteRam d rest).get i) := by
  rw [paletteRam_get, List.getD_eq_getElem?_getD]
  have hl : i.val < (build d).length := by rw [build_length]; exact h
  simp [hl]

/-- Every index that a colour resolves to is a valid one (R166). -/
theorem colourIndex_lt (d : Depth) (logical tint : Byte) : (colourIndex d logical tint).toNat < paletteSize d := by
  have h1 : ∀ l : Byte, (l &&& 1).toNat < 2 := by decide +kernel
  have h2 : ∀ l : Byte, (l &&& 3).toNat < 4 := by decide +kernel
  have h4 : ∀ l : Byte, (l &&& 15).toNat < 16 := by decide +kernel
  cases d
  · exact h1 logical
  · exact h2 logical
  · exact h4 logical
  · exact (colourIndex .bpp8 logical tint).isLt

/-- A resolved colour is an entry of `build`, whatever the unspecified part of the palette holds (R166). -/
theorem resolveIn_paletteRam (d : Depth) (rest : Nat → Colour) (logical tint : Byte) :
    (build d)[(colourIndex d logical tint).toNat]? = some (resolveIn d (paletteRam d rest) logical tint) :=
  paletteRam_valid d rest (colourIndex d logical tint).toFin (colourIndex_lt d logical tint)

/-- What a mode lookup can answer: an entry of the table with the number asked for, or the masked number (R142, R143). -/
theorem lookupMode_cases (p : Params) (m : ModeNumber) :
    (∃ d, lookupMode p m = .found d ∧ modeEntry p m = some d ∧ d.id = m ∧ d ∈ p.resetMode :: p.otherModes) ∨
      (lookupMode p m = .noSuchMode m ∧ modeEntry p m = none) := by
  unfold lookupMode
  cases h : modeEntry p m with
  | none => exact .inr ⟨rfl, rfl⟩
  | some d =>
    refine .inl ⟨d, rfl, rfl, ?_, List.mem_of_find?_eq_some h⟩
    simpa using List.find?_some h

/-- The reset mode is mapped (R142 (f)). -/
theorem modeEntry_resetMode (p : Params) : modeEntry p p.resetMode.id = some p.resetMode := by
  simp [modeEntry]

end Sys2Proof.Machine
end

