-- ==== Sys2Proof/Laws/State.lean ====
section
/-! SUPPORT. One lemma for each field of State under each named update, true by rfl, so that no proof unfolds an update. -/

namespace Sys2Proof.Machine

/-! ### `toOpcode` -/

@[simp] theorem State.toOpcode_stage (s : State) : s.toOpcode.stage = .opcode := rfl
@[simp] theorem State.toOpcode_req (s : State) : s.toOpcode.req = 1 := rfl
@[simp] theorem State.toOpcode_curOp (s : State) : s.toOpcode.curOp = s.curOp := rfl
@[simp] theorem State.toOpcode_cnt (s : State) : s.toOpcode.cnt = 0 := rfl
@[simp] theorem State.toOpcode_opbuf (s : State) : s.toOpcode.opbuf = s.opbuf := rfl
@[simp] theorem State.toOpcode_mode (s : State) : s.toOpcode.mode = s.mode := rfl
@[simp] theorem State.toOpcode_modeShadow (s : State) : s.toOpcode.modeShadow = s.modeShadow := rfl
@[simp] theorem State.toOpcode_palette (s : State) : s.toOpcode.palette = s.palette := rfl
@[simp] theorem State.toOpcode_gcCur (s : State) : s.toOpcode.gcCur = s.gcCur := rfl
@[simp] theorem State.toOpcode_gcOld (s : State) : s.toOpcode.gcOld = s.gcOld := rfl
@[simp] theorem State.toOpcode_gcOldest (s : State) : s.toOpcode.gcOldest = s.gcOldest := rfl
@[simp] theorem State.toOpcode_origin (s : State) : s.toOpcode.origin = s.origin := rfl
@[simp] theorem State.toOpcode_text (s : State) : s.toOpcode.text = s.text := rfl
@[simp] theorem State.toOpcode_flags (s : State) : s.toOpcode.flags = s.flags := rfl
@[simp] theorem State.toOpcode_v (s : State) : s.toOpcode.v = s.v := rfl
@[simp] theorem State.toOpcode_params (s : State) : s.toOpcode.params = s.params := rfl
@[simp] theorem State.toOpcode_input (s : State) : s.toOpcode.input = s.input := rfl
@[simp] theorem State.toOpcode_out (s : State) : s.toOpcode.out = s.out := rfl
@[simp] theorem State.toOpcode_results (s : State) : s.toOpcode.results = s.results := rfl
@[simp] theorem State.toOpcode_tick (s : State) : s.toOpcode.tick = s.tick := rfl

/-! ### `latch` -/

@[simp] theorem State.latch_stage (s : State) (b : Byte) (n : Nat) : (s.latch b n).stage = .operand := rfl
@[simp] theorem State.latch_req (s : State) (b : Byte) (n : Nat) : (s.latch b n).req = BitVec.ofNat 4 n := rfl
@[simp] theorem State.latch_curOp (s : State) (b : Byte) (n : Nat) : (s.latch b n).curOp = b := rfl
@[simp] theorem State.latch_cnt (s : State) (b : Byte) (n : Nat) : (s.latch b n).cnt = 0 := rfl
@[simp] theorem State.latch_opbuf (s : State) (b : Byte) (n : Nat) : (s.latch b n).opbuf = s.opbuf := rfl
@[simp] theorem State.latch_mode (s : State) (b : Byte) (n : Nat) : (s.latch b n).mode = s.mode := rfl
@[simp] theorem State.latch_modeShadow (s : State) (b : Byte) (n : Nat) : (s.latch b n).modeShadow = s.modeShadow := rfl
@[simp] theorem State.latch_palette (s : State) (b : Byte) (n : Nat) : (s.latch b n).palette = s.palette := rfl
@[simp] theorem State.latch_gcCur (s : State) (b : Byte) (n : Nat) : (s.latch b n).gcCur = s.gcCur := rfl
@[simp] theorem State.latch_gcOld (s : State) (b : Byte) (n : Nat) : (s.latch b n).gcOld = s.gcOld := rfl
@[simp] theorem State.latch_gcOldest (s : State) (b : Byte) (n : Nat) : (s.latch b n).gcOldest = s.gcOldest := rfl
@[simp] theorem State.latch_origin (s : State) (b : Byte) (n : Nat) : (s.latch b n).origin = s.origin := rfl
@[simp] theorem State.latch_text (s : State) (b : Byte) (n : Nat) : (s.latch b n).text = s.text := rfl
@[simp] theorem State.latch_flags (s : State) (b : Byte) (n : Nat) : (s.latch b n).flags = s.flags := rfl
@[simp] theorem State.latch_v (s : State) (b : Byte) (n : Nat) : (s.latch b n).v = s.v := rfl
@[simp] theorem State.latch_params (s : State) (b : Byte) (n : Nat) : (s.latch b n).params = s.params := rfl
@[simp] theorem State.latch_input (s : State) (b : Byte) (n : Nat) : (s.latch b n).input = s.input := rfl
@[simp] theorem State.latch_out (s : State) (b : Byte) (n : Nat) : (s.latch b n).out = s.out := rfl
@[simp] theorem State.latch_results (s : State) (b : Byte) (n : Nat) : (s.latch b n).results = s.results := rfl
@[simp] theorem State.latch_tick (s : State) (b : Byte) (n : Nat) : (s.latch b n).tick = s.tick := rfl

/-! ### `storeOperand` -/

@[simp] theorem State.storeOperand_stage (s : State) (b : Byte) : (s.storeOperand b).stage = s.stage := rfl
@[simp] theorem State.storeOperand_req (s : State) (b : Byte) : (s.storeOperand b).req = s.req := rfl
@[simp] theorem State.storeOperand_curOp (s : State) (b : Byte) : (s.storeOperand b).curOp = s.curOp := rfl
@[simp] theorem State.storeOperand_cnt (s : State) (b : Byte) : (s.storeOperand b).cnt = s.cnt + 1 := rfl
@[simp] theorem State.storeOperand_opbuf (s : State) (b : Byte) : (s.storeOperand b).opbuf = s.opbuf.setIfInBounds s.cnt.toNat b := rfl
@[simp] theorem State.storeOperand_mode (s : State) (b : Byte) : (s.storeOperand b).mode = s.mode := rfl
@[simp] theorem State.storeOperand_modeShadow (s : State) (b : Byte) : (s.storeOperand b).modeShadow = s.modeShadow := rfl
@[simp] theorem State.storeOperand_palette (s : State) (b : Byte) : (s.storeOperand b).palette = s.palette := rfl
@[simp] theorem State.storeOperand_gcCur (s : State) (b : Byte) : (s.storeOperand b).gcCur = s.gcCur := rfl
@[simp] theorem State.storeOperand_gcOld (s : State) (b : Byte) : (s.storeOperand b).gcOld = s.gcOld := rfl
@[simp] theorem State.storeOperand_gcOldest (s : State) (b : Byte) : (s.storeOperand b).gcOldest = s.gcOldest := rfl
@[simp] theorem State.storeOperand_origin (s : State) (b : Byte) : (s.storeOperand b).origin = s.origin := rfl
@[simp] theorem State.storeOperand_text (s : State) (b : Byte) : (s.storeOperand b).text = s.text := rfl
@[simp] theorem State.storeOperand_flags (s : State) (b : Byte) : (s.storeOperand b).flags = s.flags := rfl
@[simp] theorem State.storeOperand_v (s : State) (b : Byte) : (s.storeOperand b).v = s.v := rfl
@[simp] theorem State.storeOperand_params (s : State) (b : Byte) : (s.storeOperand b).params = s.params := rfl
@[simp] theorem State.storeOperand_input (s : State) (b : Byte) : (s.storeOperand b).input = s.input := rfl
@[simp] theorem State.storeOperand_out (s : State) (b : Byte) : (s.storeOperand b).out = s.out := rfl
@[simp] theorem State.storeOperand_results (s : State) (b : Byte) : (s.storeOperand b).results = s.results := rfl
@[simp] theorem State.storeOperand_tick (s : State) (b : Byte) : (s.storeOperand b).tick = s.tick := rfl

/-! ### `setText` -/

@[simp] theorem State.setText_stage (s : State) (c : Cell) : (s.setText c).stage = s.stage := rfl
@[simp] theorem State.setText_req (s : State) (c : Cell) : (s.setText c).req = s.req := rfl
@[simp] theorem State.setText_curOp (s : State) (c : Cell) : (s.setText c).curOp = s.curOp := rfl
@[simp] theorem State.setText_cnt (s : State) (c : Cell) : (s.setText c).cnt = s.cnt := rfl
@[simp] theorem State.setText_opbuf (s : State) (c : Cell) : (s.setText c).opbuf = s.opbuf := rfl
@[simp] theorem State.setText_mode (s : State) (c : Cell) : (s.setText c).mode = s.mode := rfl
@[simp] theorem State.setText_modeShadow (s : State) (c : Cell) : (s.setText c).modeShadow = s.modeShadow := rfl
@[simp] theorem State.setText_palette (s : State) (c : Cell) : (s.setText c).palette = s.palette := rfl
@[simp] theorem State.setText_gcCur (s : State) (c : Cell) : (s.setText c).gcCur = s.gcCur := rfl
@[simp] theorem State.setText_gcOld (s : State) (c : Cell) : (s.setText c).gcOld = s.gcOld := rfl
@[simp] theorem State.setText_gcOldest (s : State) (c : Cell) : (s.setText c).gcOldest = s.gcOldest := rfl
@[simp] theorem State.setText_origin (s : State) (c : Cell) : (s.setText c).origin = s.origin := rfl
@[simp] theorem State.setText_text (s : State) (c : Cell) : (s.setText c).text = c := rfl
@[simp] theorem State.setText_flags (s : State) (c : Cell) : (s.setText c).flags = s.flags := rfl
@[simp] theorem State.setText_v (s : State) (c : Cell) : (s.setText c).v = s.v := rfl
@[simp] theorem State.setText_params (s : State) (c : Cell) : (s.setText c).params = s.params := rfl
@[simp] theorem State.setText_input (s : State) (c : Cell) : (s.setText c).input = s.input := rfl
@[simp] theorem State.setText_out (s : State) (c : Cell) : (s.setText c).out = s.out := rfl
@[simp] theorem State.setText_results (s : State) (c : Cell) : (s.setText c).results = s.results := rfl
@[simp] theorem State.setText_tick (s : State) (c : Cell) : (s.setText c).tick = s.tick := rfl

/-! ### `recordPlot` -/

@[simp] theorem State.recordPlot_stage (s : State) (p : Point) : (s.recordPlot p).stage = s.stage := rfl
@[simp] theorem State.recordPlot_req (s : State) (p : Point) : (s.recordPlot p).req = s.req := rfl
@[simp] theorem State.recordPlot_curOp (s : State) (p : Point) : (s.recordPlot p).curOp = s.curOp := rfl
@[simp] theorem State.recordPlot_cnt (s : State) (p : Point) : (s.recordPlot p).cnt = s.cnt := rfl
@[simp] theorem State.recordPlot_opbuf (s : State) (p : Point) : (s.recordPlot p).opbuf = s.opbuf := rfl
@[simp] theorem State.recordPlot_mode (s : State) (p : Point) : (s.recordPlot p).mode = s.mode := rfl
@[simp] theorem State.recordPlot_modeShadow (s : State) (p : Point) : (s.recordPlot p).modeShadow = s.modeShadow := rfl
@[simp] theorem State.recordPlot_palette (s : State) (p : Point) : (s.recordPlot p).palette = s.palette := rfl
@[simp] theorem State.recordPlot_gcCur (s : State) (p : Point) : (s.recordPlot p).gcCur = p := rfl
@[simp] theorem State.recordPlot_gcOld (s : State) (p : Point) : (s.recordPlot p).gcOld = s.gcCur := rfl
@[simp] theorem State.recordPlot_gcOldest (s : State) (p : Point) : (s.recordPlot p).gcOldest = s.gcOld := rfl
@[simp] theorem State.recordPlot_origin (s : State) (p : Point) : (s.recordPlot p).origin = s.origin := rfl
@[simp] theorem State.recordPlot_text (s : State) (p : Point) : (s.recordPlot p).text = s.text := rfl
@[simp] theorem State.recordPlot_flags (s : State) (p : Point) : (s.recordPlot p).flags = s.flags := rfl
@[simp] theorem State.recordPlot_v (s : State) (p : Point) : (s.recordPlot p).v = s.v := rfl
@[simp] theorem State.recordPlot_params (s : State) (p : Point) : (s.recordPlot p).params = s.params := rfl
@[simp] theorem State.recordPlot_input (s : State) (p : Point) : (s.recordPlot p).input = s.input := rfl
@[simp] theorem State.recordPlot_out (s : State) (p : Point) : (s.recordPlot p).out = s.out := rfl
@[simp] theorem State.recordPlot_results (s : State) (p : Point) : (s.recordPlot p).results = s.results := rfl
@[simp] theorem State.recordPlot_tick (s : State) (p : Point) : (s.recordPlot p).tick = s.tick := rfl

/-! ### `setOrigin` -/

@[simp] theorem State.setOrigin_stage (s : State) (p : Point) : (s.setOrigin p).stage = s.stage := rfl
@[simp] theorem State.setOrigin_req (s : State) (p : Point) : (s.setOrigin p).req = s.req := rfl
@[simp] theorem State.setOrigin_curOp (s : State) (p : Point) : (s.setOrigin p).curOp = s.curOp := rfl
@[simp] theorem State.setOrigin_cnt (s : State) (p : Point) : (s.setOrigin p).cnt = s.cnt := rfl
@[simp] theorem State.setOrigin_opbuf (s : State) (p : Point) : (s.setOrigin p).opbuf = s.opbuf := rfl
@[simp] theorem State.setOrigin_mode (s : State) (p : Point) : (s.setOrigin p).mode = s.mode := rfl
@[simp] theorem State.setOrigin_modeShadow (s : State) (p : Point) : (s.setOrigin p).modeShadow = s.modeShadow := rfl
@[simp] theorem State.setOrigin_palette (s : State) (p : Point) : (s.setOrigin p).palette = s.palette := rfl
@[simp] theorem State.setOrigin_gcCur (s : State) (p : Point) : (s.setOrigin p).gcCur = s.gcCur := rfl
@[simp] theorem State.setOrigin_gcOld (s : State) (p : Point) : (s.setOrigin p).gcOld = s.gcOld := rfl
@[simp] theorem State.setOrigin_gcOldest (s : State) (p : Point) : (s.setOrigin p).gcOldest = s.gcOldest := rfl
@[simp] theorem State.setOrigin_origin (s : State) (p : Point) : (s.setOrigin p).origin = p := rfl
@[simp] theorem State.setOrigin_text (s : State) (p : Point) : (s.setOrigin p).text = s.text := rfl
@[simp] theorem State.setOrigin_flags (s : State) (p : Point) : (s.setOrigin p).flags = s.flags := rfl
@[simp] theorem State.setOrigin_v (s : State) (p : Point) : (s.setOrigin p).v = s.v := rfl
@[simp] theorem State.setOrigin_params (s : State) (p : Point) : (s.setOrigin p).params = s.params := rfl
@[simp] theorem State.setOrigin_input (s : State) (p : Point) : (s.setOrigin p).input = s.input := rfl
@[simp] theorem State.setOrigin_out (s : State) (p : Point) : (s.setOrigin p).out = s.out := rfl
@[simp] theorem State.setOrigin_results (s : State) (p : Point) : (s.setOrigin p).results = s.results := rfl
@[simp] theorem State.setOrigin_tick (s : State) (p : Point) : (s.setOrigin p).tick = s.tick := rfl

/-! ### `setFlags` -/

@[simp] theorem State.setFlags_stage (s : State) (f : Byte) : (s.setFlags f).stage = s.stage := rfl
@[simp] theorem State.setFlags_req (s : State) (f : Byte) : (s.setFlags f).req = s.req := rfl
@[simp] theorem State.setFlags_curOp (s : State) (f : Byte) : (s.setFlags f).curOp = s.curOp := rfl
@[simp] theorem State.setFlags_cnt (s : State) (f : Byte) : (s.setFlags f).cnt = s.cnt := rfl
@[simp] theorem State.setFlags_opbuf (s : State) (f : Byte) : (s.setFlags f).opbuf = s.opbuf := rfl
@[simp] theorem State.setFlags_mode (s : State) (f : Byte) : (s.setFlags f).mode = s.mode := rfl
@[simp] theorem State.setFlags_modeShadow (s : State) (f : Byte) : (s.setFlags f).modeShadow = s.modeShadow := rfl
@[simp] theorem State.setFlags_palette (s : State) (f : Byte) : (s.setFlags f).palette = s.palette := rfl
@[simp] theorem State.setFlags_gcCur (s : State) (f : Byte) : (s.setFlags f).gcCur = s.gcCur := rfl
@[simp] theorem State.setFlags_gcOld (s : State) (f : Byte) : (s.setFlags f).gcOld = s.gcOld := rfl
@[simp] theorem State.setFlags_gcOldest (s : State) (f : Byte) : (s.setFlags f).gcOldest = s.gcOldest := rfl
@[simp] theorem State.setFlags_origin (s : State) (f : Byte) : (s.setFlags f).origin = s.origin := rfl
@[simp] theorem State.setFlags_text (s : State) (f : Byte) : (s.setFlags f).text = s.text := rfl
@[simp] theorem State.setFlags_flags (s : State) (f : Byte) : (s.setFlags f).flags = f := rfl
@[simp] theorem State.setFlags_v (s : State) (f : Byte) : (s.setFlags f).v = s.v := rfl
@[simp] theorem State.setFlags_params (s : State) (f : Byte) : (s.setFlags f).params = s.params := rfl
@[simp] theorem State.setFlags_input (s : State) (f : Byte) : (s.setFlags f).input = s.input := rfl
@[simp] theorem State.setFlags_out (s : State) (f : Byte) : (s.setFlags f).out = s.out := rfl
@[simp] theorem State.setFlags_results (s : State) (f : Byte) : (s.setFlags f).results = s.results := rfl
@[simp] theorem State.setFlags_tick (s : State) (f : Byte) : (s.setFlags f).tick = s.tick := rfl

/-! ### `setVars` -/

@[simp] theorem State.setVars_stage (s : State) (w : VarTable) : (s.setVars w).stage = s.stage := rfl
@[simp] theorem State.setVars_req (s : State) (w : VarTable) : (s.setVars w).req = s.req := rfl
@[simp] theorem State.setVars_curOp (s : State) (w : VarTable) : (s.setVars w).curOp = s.curOp := rfl
@[simp] theorem State.setVars_cnt (s : State) (w : VarTable) : (s.setVars w).cnt = s.cnt := rfl
@[simp] theorem State.setVars_opbuf (s : State) (w : VarTable) : (s.setVars w).opbuf = s.opbuf := rfl
@[simp] theorem State.setVars_mode (s : State) (w : VarTable) : (s.setVars w).mode = s.mode := rfl
@[simp] theorem State.setVars_modeShadow (s : State) (w : VarTable) : (s.setVars w).modeShadow = s.modeShadow := rfl
@[simp] theorem State.setVars_palette (s : State) (w : VarTable) : (s.setVars w).palette = s.palette := rfl
@[simp] theorem State.setVars_gcCur (s : State) (w : VarTable) : (s.setVars w).gcCur = s.gcCur := rfl
@[simp] theorem State.setVars_gcOld (s : State) (w : VarTable) : (s.setVars w).gcOld = s.gcOld := rfl
@[simp] theorem State.setVars_gcOldest (s : State) (w : VarTable) : (s.setVars w).gcOldest = s.gcOldest := rfl
@[simp] theorem State.setVars_origin (s : State) (w : VarTable) : (s.setVars w).origin = s.origin := rfl
@[simp] theorem State.setVars_text (s : State) (w : VarTable) : (s.setVars w).text = s.text := rfl
@[simp] theorem State.setVars_flags (s : State) (w : VarTable) : (s.setVars w).flags = s.flags := rfl
@[simp] theorem State.setVars_v (s : State) (w : VarTable) : (s.setVars w).v = w := rfl
@[simp] theorem State.setVars_params (s : State) (w : VarTable) : (s.setVars w).params = s.params := rfl
@[simp] theorem State.setVars_input (s : State) (w : VarTable) : (s.setVars w).input = s.input := rfl
@[simp] theorem State.setVars_out (s : State) (w : VarTable) : (s.setVars w).out = s.out := rfl
@[simp] theorem State.setVars_results (s : State) (w : VarTable) : (s.setVars w).results = s.results := rfl
@[simp] theorem State.setVars_tick (s : State) (w : VarTable) : (s.setVars w).tick = s.tick := rfl

/-! ### `activateMode` -/

@[simp] theorem State.activateMode_stage (s : State) (d : ModeDesc) (sh : Bool) : (s.activateMode d sh).stage = s.stage := rfl
@[simp] theorem State.activateMode_req (s : State) (d : ModeDesc) (sh : Bool) : (s.activateMode d sh).req = s.req := rfl
@[simp] theorem State.activateMode_curOp (s : State) (d : ModeDesc) (sh : Bool) : (s.activateMode d sh).curOp = s.curOp := rfl
@[simp] theorem State.activateMode_cnt (s : State) (d : ModeDesc) (sh : Bool) : (s.activateMode d sh).cnt = s.cnt := rfl
@[simp] theorem State.activateMode_opbuf (s : State) (d : ModeDesc) (sh : Bool) : (s.activateMode d sh).opbuf = s.opbuf := rfl
@[simp] theorem State.activateMode_mode (s : State) (d : ModeDesc) (sh : Bool) : (s.activateMode d sh).mode = d := rfl
@[simp] theorem State.activateMode_modeShadow (s : State) (d : ModeDesc) (sh : Bool) : (s.activateMode d sh).modeShadow = sh := rfl
@[simp] theorem State.activateMode_palette (s : State) (d : ModeDesc) (sh : Bool) : (s.activateMode d sh).palette = paletteRam d.bitsPerPixel (Config.unspecifiedColour s.tick) := rfl
@[simp] theorem State.activateMode_gcCur (s : State) (d : ModeDesc) (sh : Bool) : (s.activateMode d sh).gcCur = Point.zero := rfl
@[simp] theorem State.activateMode_gcOld (s : State) (d : ModeDesc) (sh : Bool) : (s.activateMode d sh).gcOld = Point.zero := rfl
@[simp] theorem State.activateMode_gcOldest (s : State) (d : ModeDesc) (sh : Bool) : (s.activateMode d sh).gcOldest = Point.zero := rfl
@[simp] theorem State.activateMode_origin (s : State) (d : ModeDesc) (sh : Bool) : (s.activateMode d sh).origin = Point.zero := rfl
@[simp] theorem State.activateMode_text (s : State) (d : ModeDesc) (sh : Bool) : (s.activateMode d sh).text = homeCell s.flags (fullTextWindow d) := rfl
@[simp] theorem State.activateMode_flags (s : State) (d : ModeDesc) (sh : Bool) : (s.activateMode d sh).flags = s.flags := rfl
@[simp] theorem State.activateMode_v (s : State) (d : ModeDesc) (sh : Bool) : (s.activateMode d sh).v = activatedVars d s.v.cursorAppearance := rfl
@[simp] theorem State.activateMode_params (s : State) (d : ModeDesc) (sh : Bool) : (s.activateMode d sh).params = s.params := rfl
@[simp] theorem State.activateMode_input (s : State) (d : ModeDesc) (sh : Bool) : (s.activateMode d sh).input = s.input := rfl
@[simp] theorem State.activateMode_out (s : State) (d : ModeDesc) (sh : Bool) : (s.activateMode d sh).out = s.out := rfl
@[simp] theorem State.activateMode_results (s : State) (d : ModeDesc) (sh : Bool) : (s.activateMode d sh).results = s.results := rfl
@[simp] theorem State.activateMode_tick (s : State) (d : ModeDesc) (sh : Bool) : (s.activateMode d sh).tick = s.tick := rfl

/-! ### `finished` -/

@[simp] theorem finished_stage (i : Instr) (r : Reply) : (finished i r).stage = r.state.stage := rfl
@[simp] theorem finished_req (i : Instr) (r : Reply) : (finished i r).req = r.state.req := rfl
@[simp] theorem finished_curOp (i : Instr) (r : Reply) : (finished i r).curOp = r.state.curOp := rfl
@[simp] theorem finished_cnt (i : Instr) (r : Reply) : (finished i r).cnt = r.state.cnt := rfl
@[simp] theorem finished_opbuf (i : Instr) (r : Reply) : (finished i r).opbuf = r.state.opbuf := rfl
@[simp] theorem finished_mode (i : Instr) (r : Reply) : (finished i r).mode = r.state.mode := rfl
@[simp] theorem finished_modeShadow (i : Instr) (r : Reply) : (finished i r).modeShadow = r.state.modeShadow := rfl
@[simp] theorem finished_palette (i : Instr) (r : Reply) : (finished i r).palette = r.state.palette := rfl
@[simp] theorem finished_gcCur (i : Instr) (r : Reply) : (finished i r).gcCur = r.state.gcCur := rfl
@[simp] theorem finished_gcOld (i : Instr) (r : Reply) : (finished i r).gcOld = r.state.gcOld := rfl
@[simp] theorem finished_gcOldest (i : Instr) (r : Reply) : (finished i r).gcOldest = r.state.gcOldest := rfl
@[simp] theorem finished_origin (i : Instr) (r : Reply) : (finished i r).origin = r.state.origin := rfl
@[simp] theorem finished_text (i : Instr) (r : Reply) : (finished i r).text = r.state.text := rfl
@[simp] theorem finished_flags (i : Instr) (r : Reply) : (finished i r).flags = r.state.flags := rfl
@[simp] theorem finished_v (i : Instr) (r : Reply) : (finished i r).v = r.state.v := rfl
@[simp] theorem finished_params (i : Instr) (r : Reply) : (finished i r).params = r.state.params := rfl
@[simp] theorem finished_input (i : Instr) (r : Reply) : (finished i r).input = r.state.input := rfl
@[simp] theorem finished_out (i : Instr) (r : Reply) : (finished i r).out = r.state.out ++ r.events ++ presentIfNeeded r.events := rfl
@[simp] theorem finished_results (i : Instr) (r : Reply) : (finished i r).results = r.state.results ++ [completedResult i r.outcome] := rfl
@[simp] theorem finished_tick (i : Instr) (r : Reply) : (finished i r).tick = r.state.tick + 1 := rfl

/-! ### `rejected` -/

@[simp] theorem rejected_stage (b : Byte) (s : State) : (rejected b s).stage = s.stage := rfl
@[simp] theorem rejected_req (b : Byte) (s : State) : (rejected b s).req = s.req := rfl
@[simp] theorem rejected_curOp (b : Byte) (s : State) : (rejected b s).curOp = s.curOp := rfl
@[simp] theorem rejected_cnt (b : Byte) (s : State) : (rejected b s).cnt = s.cnt := rfl
@[simp] theorem rejected_opbuf (b : Byte) (s : State) : (rejected b s).opbuf = s.opbuf := rfl
@[simp] theorem rejected_mode (b : Byte) (s : State) : (rejected b s).mode = s.mode := rfl
@[simp] theorem rejected_modeShadow (b : Byte) (s : State) : (rejected b s).modeShadow = s.modeShadow := rfl
@[simp] theorem rejected_palette (b : Byte) (s : State) : (rejected b s).palette = s.palette := rfl
@[simp] theorem rejected_gcCur (b : Byte) (s : State) : (rejected b s).gcCur = s.gcCur := rfl
@[simp] theorem rejected_gcOld (b : Byte) (s : State) : (rejected b s).gcOld = s.gcOld := rfl
@[simp] theorem rejected_gcOldest (b : Byte) (s : State) : (rejected b s).gcOldest = s.gcOldest := rfl
@[simp] theorem rejected_origin (b : Byte) (s : State) : (rejected b s).origin = s.origin := rfl
@[simp] theorem rejected_text (b : Byte) (s : State) : (rejected b s).text = s.text := rfl
@[simp] theorem rejected_flags (b : Byte) (s : State) : (rejected b s).flags = s.flags := rfl
@[simp] theorem rejected_v (b : Byte) (s : State) : (rejected b s).v = s.v := rfl
@[simp] theorem rejected_params (b : Byte) (s : State) : (rejected b s).params = s.params := rfl
@[simp] theorem rejected_input (b : Byte) (s : State) : (rejected b s).input = s.input := rfl
@[simp] theorem rejected_out (b : Byte) (s : State) : (rejected b s).out = s.out ++ [.sig (.protocolError b none)] := rfl
@[simp] theorem rejected_results (b : Byte) (s : State) : (rejected b s).results = s.results ++ [.rejected b] := rfl
@[simp] theorem rejected_tick (b : Byte) (s : State) : (rejected b s).tick = s.tick := rfl

/-! ### `buffering` -/

@[simp] theorem State.buffering_stage (s : State) : s.buffering.stage = s.stage := rfl
@[simp] theorem State.buffering_req (s : State) : s.buffering.req = s.req := rfl
@[simp] theorem State.buffering_curOp (s : State) : s.buffering.curOp = s.curOp := rfl
@[simp] theorem State.buffering_cnt (s : State) : s.buffering.cnt = s.cnt := rfl
@[simp] theorem State.buffering_opbuf (s : State) : s.buffering.opbuf = s.opbuf := rfl
@[simp] theorem State.buffering_mode (s : State) : s.buffering.mode = s.mode := rfl
@[simp] theorem State.buffering_modeShadow (s : State) : s.buffering.modeShadow = s.modeShadow := rfl
@[simp] theorem State.buffering_palette (s : State) : s.buffering.palette = s.palette := rfl
@[simp] theorem State.buffering_gcCur (s : State) : s.buffering.gcCur = s.gcCur := rfl
@[simp] theorem State.buffering_gcOld (s : State) : s.buffering.gcOld = s.gcOld := rfl
@[simp] theorem State.buffering_gcOldest (s : State) : s.buffering.gcOldest = s.gcOldest := rfl
@[simp] theorem State.buffering_origin (s : State) : s.buffering.origin = s.origin := rfl
@[simp] theorem State.buffering_text (s : State) : s.buffering.text = s.text := rfl
@[simp] theorem State.buffering_flags (s : State) : s.buffering.flags = s.flags := rfl
@[simp] theorem State.buffering_v (s : State) : s.buffering.v = s.v := rfl
@[simp] theorem State.buffering_params (s : State) : s.buffering.params = s.params := rfl
@[simp] theorem State.buffering_input (s : State) : s.buffering.input = s.input := rfl
@[simp] theorem State.buffering_out (s : State) : s.buffering.out = s.out := rfl
@[simp] theorem State.buffering_results (s : State) : s.buffering.results = s.results ++ [.buffered] := rfl
@[simp] theorem State.buffering_tick (s : State) : s.buffering.tick = s.tick := rfl

/-! ### Replies -/

@[simp] theorem handled_state (s : State) (ev : List Event) : (handled s ev).state = s := rfl
@[simp] theorem handled_events (s : State) (ev : List Event) : (handled s ev).events = ev := rfl
@[simp] theorem handled_outcome (s : State) (ev : List Event) : (handled s ev).outcome = .handled := rfl
@[simp] theorem raise_state (s : State) (g : Signal) (o : CmdOutcome) : (raise s g o).state = s := rfl
@[simp] theorem raise_events (s : State) (g : Signal) (o : CmdOutcome) : (raise s g o).events = [.sig g] := rfl
@[simp] theorem raise_outcome (s : State) (g : Signal) (o : CmdOutcome) : (raise s g o).outcome = o := rfl

/-! ### Reset -/

@[simp] theorem State.resetWith_stage (p : Params) : (State.resetWith p).stage = .opcode := rfl
@[simp] theorem State.resetWith_req (p : Params) : (State.resetWith p).req = 1 := rfl
@[simp] theorem State.resetWith_curOp (p : Params) : (State.resetWith p).curOp = 0 := rfl
@[simp] theorem State.resetWith_cnt (p : Params) : (State.resetWith p).cnt = 0 := rfl
@[simp] theorem State.resetWith_opbuf (p : Params) : (State.resetWith p).opbuf = resetOpbuf := rfl
@[simp] theorem State.resetWith_mode (p : Params) : (State.resetWith p).mode = p.resetMode := rfl
@[simp] theorem State.resetWith_modeShadow (p : Params) : (State.resetWith p).modeShadow = false := rfl
@[simp] theorem State.resetWith_palette (p : Params) : (State.resetWith p).palette = paletteRam p.resetMode.bitsPerPixel resetPaletteRest := rfl
@[simp] theorem State.resetWith_gcCur (p : Params) : (State.resetWith p).gcCur = Point.zero := rfl
@[simp] theorem State.resetWith_gcOld (p : Params) : (State.resetWith p).gcOld = Point.zero := rfl
@[simp] theorem State.resetWith_gcOldest (p : Params) : (State.resetWith p).gcOldest = Point.zero := rfl
@[simp] theorem State.resetWith_origin (p : Params) : (State.resetWith p).origin = Point.zero := rfl
@[simp] theorem State.resetWith_text (p : Params) : (State.resetWith p).text = homeCell resetFlags (fullTextWindow p.resetMode) := rfl
@[simp] theorem State.resetWith_flags (p : Params) : (State.resetWith p).flags = resetFlags := rfl
@[simp] theorem State.resetWith_v (p : Params) : (State.resetWith p).v = activatedVars p.resetMode resetCursorAppearance := rfl
@[simp] theorem State.resetWith_params (p : Params) : (State.resetWith p).params = p := rfl
@[simp] theorem State.resetWith_input (p : Params) : (State.resetWith p).input = [] := rfl
@[simp] theorem State.resetWith_out (p : Params) : (State.resetWith p).out = [] := rfl
@[simp] theorem State.resetWith_results (p : Params) : (State.resetWith p).results = [] := rfl
@[simp] theorem State.resetWith_tick (p : Params) : (State.resetWith p).tick = 0 := rfl

end Sys2Proof.Machine
end

