-- ==== Sys2Proof/Laws/Ops.lean ====
section
/-! SUPPORT. What a handler and `exec` can do, said once: a handler writes the session's own registers and nothing of the
decoder, the configuration, the input stream or the record; `exec` always answers a next state. -/

namespace Sys2Proof.Machine

@[simp] theorem finish_eq (i : Instr) (r : Reply) : finish i r = .next (finished i r) := rfl

/-- The two states agree on the decoder's registers, the configuration, the input stream, the record of outputs and the
counter of the free values: what no handler writes. -/
structure SameSession (s t : State) : Prop where
  stage : t.stage = s.stage
  req : t.req = s.req
  curOp : t.curOp = s.curOp
  cnt : t.cnt = s.cnt
  opbuf : t.opbuf = s.opbuf
  params : t.params = s.params
  input : t.input = s.input
  out : t.out = s.out
  results : t.results = s.results
  tick : t.tick = s.tick

theorem SameSession.rfl' (s : State) : SameSession s s := ⟨rfl, rfl, rfl, rfl, rfl, rfl, rfl, rfl, rfl, rfl⟩

theorem SameSession.of_setText (s : State) (c : Cell) : SameSession s (s.setText c) :=
  ⟨rfl, rfl, rfl, rfl, rfl, rfl, rfl, rfl, rfl, rfl⟩

theorem SameSession.of_setVars (s : State) (v : VarTable) : SameSession s (s.setVars v) :=
  ⟨rfl, rfl, rfl, rfl, rfl, rfl, rfl, rfl, rfl, rfl⟩

theorem SameSession.of_setOrigin (s : State) (p : Point) : SameSession s (s.setOrigin p) :=
  ⟨rfl, rfl, rfl, rfl, rfl, rfl, rfl, rfl, rfl, rfl⟩

theorem SameSession.of_setFlags (s : State) (f : Byte) : SameSession s (s.setFlags f) :=
  ⟨rfl, rfl, rfl, rfl, rfl, rfl, rfl, rfl, rfl, rfl⟩

theorem SameSession.of_recordPlot (s : State) (p : Point) : SameSession s (s.recordPlot p) :=
  ⟨rfl, rfl, rfl, rfl, rfl, rfl, rfl, rfl, rfl, rfl⟩

theorem SameSession.of_activateMode (s : State) (d : ModeDesc) (sh : Bool) : SameSession s (s.activateMode d sh) :=
  ⟨rfl, rfl, rfl, rfl, rfl, rfl, rfl, rfl, rfl, rfl⟩

/-- What the tint sub-command can leave (R287, R288). -/
theorem tintReply_cases (n v : Byte) (s : State) :
    (∃ w, tintReply n v s = handled (s.setVars w) []) ∨ tintReply n v s = badSubCode subTint s := by
  unfold tintReply
  split
  · exact .inl ⟨_, rfl⟩
  · exact .inl ⟨_, rfl⟩
  · exact .inl ⟨_, rfl⟩
  · exact .inl ⟨_, rfl⟩
  · exact .inr rfl

/-- The tint sub-command keeps what no handler writes. -/
theorem tintReply_session (n v : Byte) (s : State) : SameSession s (tintReply n v s).state := by
  rcases tintReply_cases n v s with ⟨w, h⟩ | h <;> rw [h]
  · exact .of_setVars s w
  · exact .rfl' s

/-- VDU23 keeps what no handler writes. -/
theorem vdu23Reply_session (sub p1 p2 p3 : Byte) (s : State) : SameSession s (vdu23Reply sub p1 p2 p3 s).state := by
  unfold vdu23Reply
  split
  · exact .of_setVars s _
  · split
    · exact .rfl' s
    · split
      · exact .of_setFlags s _
      · split
        · exact tintReply_session p1 p2 s
        · exact .rfl' s

/-- What the drawing half of PLOT can leave (R234, R238): the signal, or one request. -/
theorem drawReply_cases (code : Byte) (e : DrawEffect) (s : State) :
    (primitiveTable code = none ∧ drawReply code e s = raise s (.unsupportedOperation 25 (some code)) .unsupported) ∨
    (∃ prim, primitiveTable code = some prim ∧
      drawReply code e s = handled s [.ren (drawRequest s prim e (plotColour s e).2 (plotColour s e).1)]) := by
  unfold drawReply
  cases h : primitiveTable code with
  | none => exact .inl ⟨rfl, rfl⟩
  | some prim => exact .inr ⟨prim, rfl, rfl⟩

/-- The state PLOT leaves is the one with the history shifted, whatever the effect and the primitive (R233). -/
theorem plotReply_state (code : Byte) (absolute : Bool) (e : PlotEffect) (x y : S16) (s : State) :
    (plotReply code absolute e x y s).state = s.recordPlot (newPoint absolute x y s.gcCur) := by
  cases e with
  | move => rfl
  | foreground => rcases drawReply_cases code .foreground (s.recordPlot (newPoint absolute x y s.gcCur)) with
      ⟨-, h⟩ | ⟨_, -, h⟩ <;> simp [plotReply, h]
  | inverse => rcases drawReply_cases code .inverse (s.recordPlot (newPoint absolute x y s.gcCur)) with
      ⟨-, h⟩ | ⟨_, -, h⟩ <;> simp [plotReply, h]
  | background => rcases drawReply_cases code .background (s.recordPlot (newPoint absolute x y s.gcCur)) with
      ⟨-, h⟩ | ⟨_, -, h⟩ <;> simp [plotReply, h]

theorem plotReply_session (code : Byte) (absolute : Bool) (e : PlotEffect) (x y : S16) (s : State) :
    SameSession s (plotReply code absolute e x y s).state := by
  rw [plotReply_state]
  exact .of_recordPlot s _

/-- What MODE can leave (R148, R149). -/
theorem modeReply_cases (sh : Bool) (n : ModeNumber) (s : State) :
    (modeEntry s.params n = none ∧ modeReply sh n s = raise s (.noSuchScreenMode n) .noSuchMode) ∨
    (∃ d, modeEntry s.params n = some d ∧ d.id = n ∧
      modeReply sh n s = handled (s.activateMode d sh) [.ren (.modeChanged d sh)]) := by
  unfold modeReply
  rcases lookupMode_cases s.params n with ⟨d, h, he, hid, -⟩ | ⟨h, he⟩ <;> rw [h]
  · exact .inr ⟨d, he, hid, rfl⟩
  · exact .inl ⟨he, rfl⟩

theorem modeReply_session (sh : Bool) (n : ModeNumber) (s : State) : SameSession s (modeReply sh n s).state := by
  rcases modeReply_cases sh n s with ⟨-, h⟩ | ⟨d, -, -, h⟩ <;> rw [h]
  · exact .rfl' s
  · exact .of_activateMode s d sh

/-- What a control code without a table entry can do (R300, R302). -/
theorem unlistedControl_cases (op : Byte) (i : Instr) (s : State) :
    (controlCount s.params.ctrlExt op = none ∧ unlistedControl op i s = .next (rejected op s)) ∨
    (∃ n, controlCount s.params.ctrlExt op = some n ∧
      unlistedControl op i s = .next (finished i (raise s (.unsupportedOperation op none) .unsupported))) := by
  unfold unlistedControl
  cases h : controlCount s.params.ctrlExt op with
  | none => exact .inl ⟨rfl, rfl⟩
  | some n => exact .inr ⟨n, rfl, rfl⟩

/-- EVERYTHING `exec` CAN DO: it finishes the command on a reply that writes nothing of the decoder, the configuration,
the input stream or the record, or it discards the command's byte. It never stops. -/
theorem exec_cases (i : Instr) (s : State) :
    (∃ r : Reply, exec i s = .next (finished i r) ∧ SameSession s r.state) ∨
      (exec i s = .next (rejected i.opcode s) ∧ controlCount s.params.ctrlExt i.opcode = none) := by
  have unlisted : ∀ (op : Byte) (j : Instr), j.opcode = op →
      (∃ r : Reply, unlistedControl op j s = .next (finished j r) ∧ SameSession s r.state) ∨
        (unlistedControl op j s = .next (rejected j.opcode s) ∧ controlCount s.params.ctrlExt j.opcode = none) := by
    rintro op j rfl
    rcases unlistedControl_cases j.opcode j s with ⟨hc, h⟩ | ⟨n, -, h⟩
    · exact .inr ⟨h, hc⟩
    · exact .inl ⟨_, h, .rfl' s⟩
  cases i with
  | nul => exact .inl ⟨_, rfl, .rfl' s⟩
  | bel => exact .inl ⟨_, rfl, .rfl' s⟩
  | lf => exact .inl ⟨_, rfl, .of_setText s _⟩
  | cls => exact .inl ⟨_, rfl, .of_setText s _⟩
  | cr => exact .inl ⟨_, rfl, .of_setText s _⟩
  | colour b c => exact .inl ⟨_, rfl, .of_setVars s _⟩
  | gcol a b c => exact .inl ⟨_, rfl, .of_setVars s _⟩
  | palette l p r g b => exact .inl ⟨_, rfl, .rfl' s⟩
  | mode sh n => exact .inl ⟨_, rfl, modeReply_session sh n s⟩
  | vdu23 sub p1 p2 p3 p4 p5 p6 p7 p8 => exact .inl ⟨_, rfl, vdu23Reply_session sub p1 p2 p3 s⟩
  | gwindow l b r t => exact .inl ⟨_, rfl, .of_setVars s _⟩
  | plot k x y => exact .inl ⟨_, rfl, plotReply_session _ _ _ x y s⟩
  | twindow l b r t => exact .inl ⟨_, rfl, .of_setVars s _⟩
  | origin x y => exact .inl ⟨_, rfl, .of_setOrigin s _⟩
  | tab c r => exact .inl ⟨_, rfl, .of_setText s _⟩
  | char c => exact .inl ⟨_, rfl, .of_setText s _⟩
  | del => exact .inl ⟨_, rfl, .of_setText s _⟩
  | udg c => exact .inl ⟨_, rfl, .of_setText s _⟩
  | vdu23Cursor n p2 p3 p4 p5 p6 p7 p8 => exact .inl ⟨_, rfl, .of_setVars s _⟩
  | vdu23Scroll e d z p4 p5 p6 p7 p8 => exact .inl ⟨_, rfl, .rfl' s⟩
  | vdu23Printdir x y p3 p4 p5 p6 p7 p8 => exact .inl ⟨_, rfl, .of_setFlags s _⟩
  | vdu23Tint n v p3 p4 p5 p6 p7 p8 => exact .inl ⟨_, rfl, tintReply_session n v s⟩
  | vdu23Reserved sub p1 p2 p3 p4 p5 p6 p7 p8 => exact .inl ⟨_, rfl, .rfl' s⟩
  | undef01 ops => exact unlisted 1 (.undef01 ops) rfl
  | undef02 ops => exact unlisted 2 (.undef02 ops) rfl
  | undef03 ops => exact unlisted 3 (.undef03 ops) rfl
  | undef04 ops => exact unlisted 4 (.undef04 ops) rfl
  | undef05 ops => exact unlisted 5 (.undef05 ops) rfl
  | undef06 ops => exact unlisted 6 (.undef06 ops) rfl
  | undef08 ops => exact unlisted 8 (.undef08 ops) rfl
  | undef09 ops => exact unlisted 9 (.undef09 ops) rfl
  | undef11 ops => exact unlisted 11 (.undef11 ops) rfl
  | undef14 ops => exact unlisted 14 (.undef14 ops) rfl
  | undef15 ops => exact unlisted 15 (.undef15 ops) rfl
  | undef16 ops => exact unlisted 16 (.undef16 ops) rfl
  | undef20 ops => exact unlisted 20 (.undef20 ops) rfl
  | undef21 ops => exact unlisted 21 (.undef21 ops) rfl
  | undef26 ops => exact unlisted 26 (.undef26 ops) rfl
  | undef27 ops => exact unlisted 27 (.undef27 ops) rfl
  | undef30 ops => exact unlisted 30 (.undef30 ops) rfl
  | plot00 a e x y => exact .inl ⟨_, rfl, plotReply_session 0x00 a e x y s⟩
  | plot08 a e x y => exact .inl ⟨_, rfl, plotReply_session 0x08 a e x y s⟩
  | plot10 a e x y => exact .inl ⟨_, rfl, plotReply_session 0x10 a e x y s⟩
  | plot18 a e x y => exact .inl ⟨_, rfl, plotReply_session 0x18 a e x y s⟩
  | plot20 a e x y => exact .inl ⟨_, rfl, plotReply_session 0x20 a e x y s⟩
  | plot28 a e x y => exact .inl ⟨_, rfl, plotReply_session 0x28 a e x y s⟩
  | plot30 a e x y => exact .inl ⟨_, rfl, plotReply_session 0x30 a e x y s⟩
  | plot38 a e x y => exact .inl ⟨_, rfl, plotReply_session 0x38 a e x y s⟩
  | plot40 a e x y => exact .inl ⟨_, rfl, plotReply_session 0x40 a e x y s⟩
  | plot48 a e x y => exact .inl ⟨_, rfl, plotReply_session 0x48 a e x y s⟩
  | plot50 a e x y => exact .inl ⟨_, rfl, plotReply_session 0x50 a e x y s⟩
  | plot58 a e x y => exact .inl ⟨_, rfl, plotReply_session 0x58 a e x y s⟩
  | plot60 a e x y => exact .inl ⟨_, rfl, plotReply_session 0x60 a e x y s⟩
  | plot68 a e x y => exact .inl ⟨_, rfl, plotReply_session 0x68 a e x y s⟩
  | plot70 a e x y => exact .inl ⟨_, rfl, plotReply_session 0x70 a e x y s⟩
  | plot78 a e x y => exact .inl ⟨_, rfl, plotReply_session 0x78 a e x y s⟩
  | plot80 a e x y => exact .inl ⟨_, rfl, plotReply_session 0x80 a e x y s⟩
  | plot88 a e x y => exact .inl ⟨_, rfl, plotReply_session 0x88 a e x y s⟩
  | plot90 a e x y => exact .inl ⟨_, rfl, plotReply_session 0x90 a e x y s⟩
  | plot98 a e x y => exact .inl ⟨_, rfl, plotReply_session 0x98 a e x y s⟩
  | plotA0 a e x y => exact .inl ⟨_, rfl, plotReply_session 0xA0 a e x y s⟩
  | plotA8 a e x y => exact .inl ⟨_, rfl, plotReply_session 0xA8 a e x y s⟩
  | plotB0 a e x y => exact .inl ⟨_, rfl, plotReply_session 0xB0 a e x y s⟩
  | plotB8 a e x y => exact .inl ⟨_, rfl, plotReply_session 0xB8 a e x y s⟩
  | plotC0 a e x y => exact .inl ⟨_, rfl, plotReply_session 0xC0 a e x y s⟩
  | plotC8 a e x y => exact .inl ⟨_, rfl, plotReply_session 0xC8 a e x y s⟩
  | plotD0 a e x y => exact .inl ⟨_, rfl, plotReply_session 0xD0 a e x y s⟩
  | plotD8 a e x y => exact .inl ⟨_, rfl, plotReply_session 0xD8 a e x y s⟩
  | plotE0 a e x y => exact .inl ⟨_, rfl, plotReply_session 0xE0 a e x y s⟩
  | plotE8 a e x y => exact .inl ⟨_, rfl, plotReply_session 0xE8 a e x y s⟩
  | plotF0 a e x y => exact .inl ⟨_, rfl, plotReply_session 0xF0 a e x y s⟩
  | plotF8 a e x y => exact .inl ⟨_, rfl, plotReply_session 0xF8 a e x y s⟩

end Sys2Proof.Machine
end

