-- ==== Sys2Proof/Laws/Feed.lean ====
section
/-! SUPPORT. The decoder: the operand buffer as a list, and what a `feed` can do, said once. -/

namespace Sys2Proof.Machine

/-- Storing one more byte appends it to the bytes held (R24, R64). -/
theorem heldOperands_storeOperand (s : State) (b : Byte) (h : s.cnt.toNat < 9) :
    (s.storeOperand b).heldOperands (s.cnt.toNat + 1) = s.heldOperands s.cnt.toNat ++ [b] := by
  simp only [State.heldOperands, State.storeOperand_opbuf, Vector.toList_setIfInBounds]
  rw [List.take_add_one]
  have hl : s.opbuf.toList.length = 9 := by simp
  simp [List.take_set_of_le, hl, h]

/-- The counter does not wrap inside a command (R122). -/
theorem storeOperand_cnt_toNat (s : State) (b : Byte) (h : s.cnt.toNat < 9) :
    (s.storeOperand b).cnt.toNat = s.cnt.toNat + 1 := by
  simp only [State.storeOperand_cnt, BitVec.toNat_add]
  have : (1 : BitVec 4).toNat = 1 := rfl
  omega

/-- What `feed` does in stage `OPCODE` (R114): latch an opcode that takes operands, or run the command. -/
theorem feed_opcode_cases (b : Byte) (s : State) (h : s.stage = .opcode) :
    (operandCount s.params.ctrlExt b = 0 ∧ feed b s = runCommand b [] s) ∨
    (∃ n, operandCount s.params.ctrlExt b = n + 1 ∧ feed b s = .next (s.latch b (n + 1)).buffering) := by
  simp only [feed, h, dispatchOpcode]
  cases hc : operandCount s.params.ctrlExt b with
  | zero => exact .inl ⟨rfl, rfl⟩
  | succ n => exact .inr ⟨n, rfl, rfl⟩

/-- What `feed` does in stage `OPERAND` (R112): store the byte, and on the last one run the command. -/
theorem feed_operand_cases (b : Byte) (s : State) (h : s.stage = .operand) :
    (s.req ≤ s.cnt + 1 ∧
      feed b s = runCommand s.curOp ((s.storeOperand b).heldOperands s.req.toNat) (s.storeOperand b).toOpcode) ∨
    (¬ s.req ≤ s.cnt + 1 ∧ feed b s = .next (s.storeOperand b).buffering) := by
  simp only [feed, h, acceptOperand, State.storeOperand_req, State.storeOperand_cnt, State.storeOperand_curOp]
  by_cases hc : s.req ≤ s.cnt + 1
  · exact .inl ⟨hc, if_pos hc⟩
  · exact .inr ⟨hc, if_neg hc⟩

/-- Running a command is `exec`, where the operands fit the opcode (R118). -/
theorem runCommand_of_command {op : Byte} {ops : List Byte} {i : Instr} (h : command op ops = some i) (s : State) :
    runCommand op ops s = exec i s := by
  simp [runCommand, h]

/-- Feeding a sequence is feeding its first byte, then the rest (R124). -/
theorem feedAll_cons (b : Byte) (bytes : List Byte) (s t : State) (h : feed b s = .next t) :
    feedAll (b :: bytes) s = feedAll bytes t := by
  simp [feedAll, h]

/-- One step is the next move of the host (R10). -/
theorem step_cons (s : State) (op : HostOp) (rest : List HostOp) (h : s.input = op :: rest) :
    step s = perform op { s with input := rest } := by
  simp [step, h]

end Sys2Proof.Machine
end

