-- ==== Sys2Proof/Laws/Operands.lean ====
section
/-! SUPPORT. The operand forms: reading what was written, and writing what was read. -/

namespace Sys2Proof.Machine

/-- The value of a word: the high byte times 256 plus the low byte (R65), as an unsigned number. -/
theorem le16_toNat (lo hi : Byte) : (le16 lo hi).toNat = hi.toNat * 256 + lo.toNat := by
  unfold le16
  rw [BitVec.toNat_append, Nat.shiftLeft_eq, Nat.mul_comm, ← Nat.two_pow_add_eq_or_of_lt lo.isLt]

theorem loByte_toNat (w : S16) : (loByte w).toNat = w.toNat % 256 := by
  simp [loByte]

theorem hiByte_toNat (w : S16) : (hiByte w).toNat = w.toNat / 256 := by
  have := w.isLt
  simp only [hiByte, BitVec.extractLsb'_toNat, Nat.shiftRight_eq_div_pow]
  omega

@[simp] theorem loByte_le16 (lo hi : Byte) : loByte (le16 lo hi) = lo := by
  have := lo.isLt
  apply BitVec.eq_of_toNat_eq
  rw [loByte_toNat, le16_toNat]
  omega

@[simp] theorem hiByte_le16 (lo hi : Byte) : hiByte (le16 lo hi) = hi := by
  have := lo.isLt
  apply BitVec.eq_of_toNat_eq
  rw [hiByte_toNat, le16_toNat]
  omega

@[simp] theorem le16_lo_hi (w : S16) : le16 (loByte w) (hiByte w) = w := by
  apply BitVec.eq_of_toNat_eq
  rw [le16_toNat, loByte_toNat, hiByte_toNat]
  omega

/-- `zext_16` keeps the unsigned value (R96). -/
theorem zext16_toNat (b : Byte) : (zext16 b).toNat = b.toNat := by
  have := b.isLt
  simp only [zext16, BitVec.toNat_setWidth]
  omega

@[simp] theorem splitByte_topBit_lowSeven : ∀ b : Byte, splitByte (topBit b) (lowSeven b) = b := by decide +kernel
@[simp] theorem topBit_splitByte : ∀ (t : Bool) (l : BitVec 7), topBit (splitByte t l) = t := by decide +kernel
@[simp] theorem lowSeven_splitByte : ∀ (t : Bool) (l : BitVec 7), lowSeven (splitByte t l) = l := by decide +kernel

/-- A PLOT code is its primitive code and its fields put together again (R92). -/
theorem plotCode_fields : ∀ k : Byte, plotCode (plotPrimitive k) (plotAbsolute k) (plotEffect k) = k := by decide +kernel

/-- The fields of a PLOT code that was put together from a primitive code (R92). -/
theorem plotFields_code (k : Byte) (absolute : Bool) (e : PlotEffect) :
    plotPrimitive (plotCode (plotPrimitive k) absolute e) = plotPrimitive k ∧
      plotAbsolute (plotCode (plotPrimitive k) absolute e) = absolute ∧
      plotEffect (plotCode (plotPrimitive k) absolute e) = e := by
  have h : ∀ k : Byte, ∀ a ∈ [true, false], ∀ e ∈ [PlotEffect.move, .foreground, .inverse, .background],
      plotPrimitive (plotCode (plotPrimitive k) a e) = plotPrimitive k ∧
        plotAbsolute (plotCode (plotPrimitive k) a e) = a ∧ plotEffect (plotCode (plotPrimitive k) a e) = e := by
    decide +kernel
  exact h k absolute (by cases absolute <;> simp) e (by cases e <;> simp)

end Sys2Proof.Machine
end

