-- ==== Sys2Proof/Laws/PerInstr.lean ====
section
/-! SUPPORT. Statements made per instruction. `EncodingLength`: a well-formed command is one opcode byte and as many operand
bytes as the opcode alone determines, at most ten bytes in all (R80). -/

namespace Sys2Proof.Laws

open Sys2Proof.Machine

/-- The length of a command is the one its opcode determines (R80). -/
def EncodingLength.Statement (i : Instr) : Prop :=
  ∀ ext : CtrlExt, i.wellFormed ext = true →
    (encode i).length = 1 + operandCount ext i.opcode ∧ (encode i).length ≤ 10

/-- A command whose opcode is in the control table. -/
theorem encodingLength_of_listed {i : Instr} (n : Nat) (hn : n ≤ 9) (hl : i.operands.length = n)
    (hc : ∀ ext, operandCount ext i.opcode = n) : EncodingLength.Statement i := by
  intro ext _
  simp only [encode, List.length_cons, hl, hc]
  omega

/-- A control code that the table leaves out. -/
theorem encodingLength_of_unlisted {i : Instr}
    (h : ∀ ext, i.wellFormed ext = true → i.operands.length = operandCount ext i.opcode) :
    EncodingLength.Statement i := by
  intro ext hw
  have := operandCount_le_nine ext i.opcode
  simp only [encode, List.length_cons, h ext hw]
  omega

theorem EncodingLength.nul : EncodingLength.Statement .nul :=
  encodingLength_of_listed 0 (by decide) rfl fun _ => rfl

theorem EncodingLength.bel : EncodingLength.Statement .bel :=
  encodingLength_of_listed 0 (by decide) rfl fun _ => rfl

theorem EncodingLength.lf : EncodingLength.Statement .lf :=
  encodingLength_of_listed 0 (by decide) rfl fun _ => rfl

theorem EncodingLength.cls : EncodingLength.Statement .cls :=
  encodingLength_of_listed 0 (by decide) rfl fun _ => rfl

theorem EncodingLength.cr : EncodingLength.Statement .cr :=
  encodingLength_of_listed 0 (by decide) rfl fun _ => rfl

theorem EncodingLength.colour (a : Bool) (b : Logical) : EncodingLength.Statement (.colour a b) :=
  encodingLength_of_listed 1 (by decide) rfl fun _ => rfl

theorem EncodingLength.gcol (a : Byte) (b : Bool) (c : Logical) : EncodingLength.Statement (.gcol a b c) :=
  encodingLength_of_listed 2 (by decide) rfl fun _ => rfl

theorem EncodingLength.palette (a : Byte) (b : Byte) (c : Byte) (d : Byte) (e : Byte) : EncodingLength.Statement (.palette a b c d e) :=
  encodingLength_of_listed 5 (by decide) rfl fun _ => rfl

theorem EncodingLength.mode (a : Bool) (b : ModeNumber) : EncodingLength.Statement (.mode a b) :=
  encodingLength_of_listed 1 (by decide) rfl fun _ => rfl

theorem EncodingLength.vdu23 (a : Byte) (b : Byte) (c : Byte) (d : Byte) (e : Byte) (f : Byte) (g : Byte) (h : Byte) (j : Byte) : EncodingLength.Statement (.vdu23 a b c d e f g h j) :=
  encodingLength_of_listed 9 (by decide) rfl fun _ => rfl

theorem EncodingLength.gwindow (a : S16) (b : S16) (c : S16) (d : S16) : EncodingLength.Statement (.gwindow a b c d) :=
  encodingLength_of_listed 8 (by decide) rfl fun _ => rfl

theorem EncodingLength.plot (a : Byte) (b : S16) (c : S16) : EncodingLength.Statement (.plot a b c) :=
  encodingLength_of_listed 5 (by decide) rfl fun _ => rfl

theorem EncodingLength.twindow (a : S16) (b : S16) (c : S16) (d : S16) : EncodingLength.Statement (.twindow a b c d) :=
  encodingLength_of_listed 8 (by decide) rfl fun _ => rfl

theorem EncodingLength.origin (a : S16) (b : S16) : EncodingLength.Statement (.origin a b) :=
  encodingLength_of_listed 4 (by decide) rfl fun _ => rfl

theorem EncodingLength.tab (a : Byte) (b : Byte) : EncodingLength.Statement (.tab a b) :=
  encodingLength_of_listed 2 (by decide) rfl fun _ => rfl

theorem EncodingLength.del : EncodingLength.Statement .del :=
  encodingLength_of_listed 0 (by decide) rfl fun _ => rfl

theorem EncodingLength.vdu23Cursor (a : Byte) (b : Byte) (c : Byte) (d : Byte) (e : Byte) (f : Byte) (g : Byte) (h : Byte) : EncodingLength.Statement (.vdu23Cursor a b c d e f g h) :=
  encodingLength_of_listed 9 (by decide) rfl fun _ => rfl

theorem EncodingLength.vdu23Scroll (a : Byte) (b : Byte) (c : Byte) (d : Byte) (e : Byte) (f : Byte) (g : Byte) (h : Byte) : EncodingLength.Statement (.vdu23Scroll a b c d e f g h) :=
  encodingLength_of_listed 9 (by decide) rfl fun _ => rfl

theorem EncodingLength.vdu23Printdir (a : Byte) (b : Byte) (c : Byte) (d : Byte) (e : Byte) (f : Byte) (g : Byte) (h : Byte) : EncodingLength.Statement (.vdu23Printdir a b c d e f g h) :=
  encodingLength_of_listed 9 (by decide) rfl fun _ => rfl

theorem EncodingLength.vdu23Tint (a : Byte) (b : Byte) (c : Byte) (d : Byte) (e : Byte) (f : Byte) (g : Byte) (h : Byte) : EncodingLength.Statement (.vdu23Tint a b c d e f g h) :=
  encodingLength_of_listed 9 (by decide) rfl fun _ => rfl

theorem EncodingLength.vdu23Reserved (a : Byte) (b : Byte) (c : Byte) (d : Byte) (e : Byte) (f : Byte) (g : Byte) (h : Byte) (j : Byte) : EncodingLength.Statement (.vdu23Reserved a b c d e f g h j) :=
  encodingLength_of_listed 9 (by decide) rfl fun _ => rfl

theorem EncodingLength.plot00 (a : Bool) (b : PlotEffect) (c : S16) (d : S16) : EncodingLength.Statement (.plot00 a b c d) :=
  encodingLength_of_listed 5 (by decide) rfl fun _ => rfl

theorem EncodingLength.plot08 (a : Bool) (b : PlotEffect) (c : S16) (d : S16) : EncodingLength.Statement (.plot08 a b c d) :=
  encodingLength_of_listed 5 (by decide) rfl fun _ => rfl

theorem EncodingLength.plot10 (a : Bool) (b : PlotEffect) (c : S16) (d : S16) : EncodingLength.Statement (.plot10 a b c d) :=
  encodingLength_of_listed 5 (by decide) rfl fun _ => rfl

theorem EncodingLength.plot18 (a : Bool) (b : PlotEffect) (c : S16) (d : S16) : EncodingLength.Statement (.plot18 a b c d) :=
  encodingLength_of_listed 5 (by decide) rfl fun _ => rfl

theorem EncodingLength.plot20 (a : Bool) (b : PlotEffect) (c : S16) (d : S16) : EncodingLength.Statement (.plot20 a b c d) :=
  encodingLength_of_listed 5 (by decide) rfl fun _ => rfl

theorem EncodingLength.plot28 (a : Bool) (b : PlotEffect) (c : S16) (d : S16) : EncodingLength.Statement (.plot28 a b c d) :=
  encodingLength_of_listed 5 (by decide) rfl fun _ => rfl

theorem EncodingLength.plot30 (a : Bool) (b : PlotEffect) (c : S16) (d : S16) : EncodingLength.Statement (.plot30 a b c d) :=
  encodingLength_of_listed 5 (by decide) rfl fun _ => rfl

theorem EncodingLength.plot38 (a : Bool) (b : PlotEffect) (c : S16) (d : S16) : EncodingLength.Statement (.plot38 a b c d) :=
  encodingLength_of_listed 5 (by decide) rfl fun _ => rfl

theorem EncodingLength.plot40 (a : Bool) (b : PlotEffect) (c : S16) (d : S16) : EncodingLength.Statement (.plot40 a b c d) :=
  encodingLength_of_listed 5 (by decide) rfl fun _ => rfl

theorem EncodingLength.plot48 (a : Bool) (b : PlotEffect) (c : S16) (d : S16) : EncodingLength.Statement (.plot48 a b c d) :=
  encodingLength_of_listed 5 (by decide) rfl fun _ => rfl

theorem EncodingLength.plot50 (a : Bool) (b : PlotEffect) (c : S16) (d : S16) : EncodingLength.Statement (.plot50 a b c d) :=
  encodingLength_of_listed 5 (by decide) rfl fun _ => rfl

theorem EncodingLength.plot58 (a : Bool) (b : PlotEffect) (c : S16) (d : S16) : EncodingLength.Statement (.plot58 a b c d) :=
  encodingLength_of_listed 5 (by decide) rfl fun _ => rfl

theorem EncodingLength.plot60 (a : Bool) (b : PlotEffect) (c : S16) (d : S16) : EncodingLength.Statement (.plot60 a b c d) :=
  encodingLength_of_listed 5 (by decide) rfl fun _ => rfl

theorem EncodingLength.plot68 (a : Bool) (b : PlotEffect) (c : S16) (d : S16) : EncodingLength.Statement (.plot68 a b c d) :=
  encodingLength_of_listed 5 (by decide) rfl fun _ => rfl

theorem EncodingLength.plot70 (a : Bool) (b : PlotEffect) (c : S16) (d : S16) : EncodingLength.Statement (.plot70 a b c d) :=
  encodingLength_of_listed 5 (by decide) rfl fun _ => rfl

theorem EncodingLength.plot78 (a : Bool) (b : PlotEffect) (c : S16) (d : S16) : EncodingLength.Statement (.plot78 a b c d) :=
  encodingLength_of_listed 5 (by decide) rfl fun _ => rfl

theorem EncodingLength.plot80 (a : Bool) (b : PlotEffect) (c : S16) (d : S16) : EncodingLength.Statement (.plot80 a b c d) :=
  encodingLength_of_listed 5 (by decide) rfl fun _ => rfl

theorem EncodingLength.plot88 (a : Bool) (b : PlotEffect) (c : S16) (d : S16) : EncodingLength.Statement (.plot88 a b c d) :=
  encodingLength_of_listed 5 (by decide) rfl fun _ => rfl

theorem EncodingLength.plot90 (a : Bool) (b : PlotEffect) (c : S16) (d : S16) : EncodingLength.Statement (.plot90 a b c d) :=
  encodingLength_of_listed 5 (by decide) rfl fun _ => rfl

theorem EncodingLength.plot98 (a : Bool) (b : PlotEffect) (c : S16) (d : S16) : EncodingLength.Statement (.plot98 a b c d) :=
  encodingLength_of_listed 5 (by decide) rfl fun _ => rfl

theorem EncodingLength.plotA0 (a : Bool) (b : PlotEffect) (c : S16) (d : S16) : EncodingLength.Statement (.plotA0 a b c d) :=
  encodingLength_of_listed 5 (by decide) rfl fun _ => rfl

theorem EncodingLength.plotA8 (a : Bool) (b : PlotEffect) (c : S16) (d : S16) : EncodingLength.Statement (.plotA8 a b c d) :=
  encodingLength_of_listed 5 (by decide) rfl fun _ => rfl

theorem EncodingLength.plotB0 (a : Bool) (b : PlotEffect) (c : S16) (d : S16) : EncodingLength.Statement (.plotB0 a b c d) :=
  encodingLength_of_listed 5 (by decide) rfl fun _ => rfl

theorem EncodingLength.plotB8 (a : Bool) (b : PlotEffect) (c : S16) (d : S16) : EncodingLength.Statement (.plotB8 a b c d) :=
  encodingLength_of_listed 5 (by decide) rfl fun _ => rfl

theorem EncodingLength.plotC0 (a : Bool) (b : PlotEffect) (c : S16) (d : S16) : EncodingLength.Statement (.plotC0 a b c d) :=
  encodingLength_of_listed 5 (by decide) rfl fun _ => rfl

theorem EncodingLength.plotC8 (a : Bool) (b : PlotEffect) (c : S16) (d : S16) : EncodingLength.Statement (.plotC8 a b c d) :=
  encodingLength_of_listed 5 (by decide) rfl fun _ => rfl

theorem EncodingLength.plotD0 (a : Bool) (b : PlotEffect) (c : S16) (d : S16) : EncodingLength.Statement (.plotD0 a b c d) :=
  encodingLength_of_listed 5 (by decide) rfl fun _ => rfl

theorem EncodingLength.plotD8 (a : Bool) (b : PlotEffect) (c : S16) (d : S16) : EncodingLength.Statement (.plotD8 a b c d) :=
  encodingLength_of_listed 5 (by decide) rfl fun _ => rfl

theorem EncodingLength.plotE0 (a : Bool) (b : PlotEffect) (c : S16) (d : S16) : EncodingLength.Statement (.plotE0 a b c d) :=
  encodingLength_of_listed 5 (by decide) rfl fun _ => rfl

theorem EncodingLength.plotE8 (a : Bool) (b : PlotEffect) (c : S16) (d : S16) : EncodingLength.Statement (.plotE8 a b c d) :=
  encodingLength_of_listed 5 (by decide) rfl fun _ => rfl

theorem EncodingLength.plotF0 (a : Bool) (b : PlotEffect) (c : S16) (d : S16) : EncodingLength.Statement (.plotF0 a b c d) :=
  encodingLength_of_listed 5 (by decide) rfl fun _ => rfl

theorem EncodingLength.plotF8 (a : Bool) (b : PlotEffect) (c : S16) (d : S16) : EncodingLength.Statement (.plotF8 a b c d) :=
  encodingLength_of_listed 5 (by decide) rfl fun _ => rfl

theorem EncodingLength.undef01 (ops : List Byte) : EncodingLength.Statement (.undef01 ops) :=
  encodingLength_of_unlisted fun _ hw => eq_of_beq hw

theorem EncodingLength.undef02 (ops : List Byte) : EncodingLength.Statement (.undef02 ops) :=
  encodingLength_of_unlisted fun _ hw => eq_of_beq hw

theorem EncodingLength.undef03 (ops : List Byte) : EncodingLength.Statement (.undef03 ops) :=
  encodingLength_of_unlisted fun _ hw => eq_of_beq hw

theorem EncodingLength.undef04 (ops : List Byte) : EncodingLength.Statement (.undef04 ops) :=
  encodingLength_of_unlisted fun _ hw => eq_of_beq hw

theorem EncodingLength.undef05 (ops : List Byte) : EncodingLength.Statement (.undef05 ops) :=
  encodingLength_of_unlisted fun _ hw => eq_of_beq hw

theorem EncodingLength.undef06 (ops : List Byte) : EncodingLength.Statement (.undef06 ops) :=
  encodingLength_of_unlisted fun _ hw => eq_of_beq hw

theorem EncodingLength.undef08 (ops : List Byte) : EncodingLength.Statement (.undef08 ops) :=
  encodingLength_of_unlisted fun _ hw => eq_of_beq hw

theorem EncodingLength.undef09 (ops : List Byte) : EncodingLength.Statement (.undef09 ops) :=
  encodingLength_of_unlisted fun _ hw => eq_of_beq hw

theorem EncodingLength.undef11 (ops : List Byte) : EncodingLength.Statement (.undef11 ops) :=
  encodingLength_of_unlisted fun _ hw => eq_of_beq hw

theorem EncodingLength.undef14 (ops : List Byte) : EncodingLength.Statement (.undef14 ops) :=
  encodingLength_of_unlisted fun _ hw => eq_of_beq hw

theorem EncodingLength.undef15 (ops : List Byte) : EncodingLength.Statement (.undef15 ops) :=
  encodingLength_of_unlisted fun _ hw => eq_of_beq hw

theorem EncodingLength.undef16 (ops : List Byte) : EncodingLength.Statement (.undef16 ops) :=
  encodingLength_of_unlisted fun _ hw => eq_of_beq hw

theorem EncodingLength.undef20 (ops : List Byte) : EncodingLength.Statement (.undef20 ops) :=
  encodingLength_of_unlisted fun _ hw => eq_of_beq hw

theorem EncodingLength.undef21 (ops : List Byte) : EncodingLength.Statement (.undef21 ops) :=
  encodingLength_of_unlisted fun _ hw => eq_of_beq hw

theorem EncodingLength.undef26 (ops : List Byte) : EncodingLength.Statement (.undef26 ops) :=
  encodingLength_of_unlisted fun _ hw => eq_of_beq hw

theorem EncodingLength.undef27 (ops : List Byte) : EncodingLength.Statement (.undef27 ops) :=
  encodingLength_of_unlisted fun _ hw => eq_of_beq hw

theorem EncodingLength.undef30 (ops : List Byte) : EncodingLength.Statement (.undef30 ops) :=
  encodingLength_of_unlisted fun _ hw => eq_of_beq hw

theorem EncodingLength.char (code : Byte) : EncodingLength.Statement (.char code) := by
  intro ext hw
  simp [encode, Instr.operands, Instr.opcode, operandCount_glyph ext (isControl_of_isPrintable hw)]

theorem EncodingLength.udg (code : Byte) : EncodingLength.Statement (.udg code) := by
  intro ext hw
  simp [encode, Instr.operands, Instr.opcode, operandCount_glyph ext (isControl_of_isUdg hw)]

end Sys2Proof.Laws
end

