-- ==== Sys2Proof/Tests/Slice0.lean ====
section
/-! SUPPORT. Small tests: the ill-formed terms that `wellFormed` refuses; a word for every constructor, written out from the
encodings of 30_encoding.md, 44_plot.md, 46_vdu23.md; single steps with the values of 95_test_vectors.md (the rows V-DEC to
V-23, under its fixture mode table T); and, for every statement that has hypotheses, values that meet them. -/

namespace Sys2Proof.Tests

open Sys2Proof.Machine

set_option Elab.async false

/-! ### The fixture mode table T of 95_test_vectors.md -/

def mode0 : ModeDesc := { id := 0, textWidth := 80, textHeight := 32, pixelWidth := 640, pixelHeight := 256, unitWidth := 1280, unitHeight := 1024 }
def mode1 : ModeDesc := { id := 1, textWidth := 40, textHeight := 32, pixelWidth := 320, pixelHeight := 256, unitWidth := 1280, unitHeight := 1024, bitsPerPixel := .bpp2 }
def mode3 : ModeDesc := { id := 3, textWidth := 80, textHeight := 25 }
def mode12 : ModeDesc := { id := 12, textWidth := 80, textHeight := 32, pixelWidth := 640, pixelHeight := 256, unitWidth := 1280, unitHeight := 1024, bitsPerPixel := .bpp4 }
def mode28 : ModeDesc := { id := 28, textWidth := 80, textHeight := 60, pixelWidth := 640, pixelHeight := 480, unitWidth := 1280, unitHeight := 960, bitsPerPixel := .bpp8 }

/-- T with RESET_MODE 0, and a CTRL_EXT. -/
def paramsT (ext : CtrlExt) : Params := { resetMode := mode0, otherModes := [mode1, mode3, mode12, mode28], ctrlExt := ext }

/-- The reset state under T. -/
def start : State := State.resetWith (paramsT [])

/-- The reset state under T with CTRL_EXT mapping opcode 1 to one operand. -/
def startExt : State := State.resetWith (paramsT [(1, 1)])

/-- The start state in an activated mode. -/
def inMode (d : ModeDesc) : State := start.activateMode d false

/-- The start state with text flags and a text cursor. -/
def textAt (f : Byte) (col row : S16) : State := { start with flags := f, text := ⟨col, row⟩ }

/-- A state with a history. -/
def withHistory (s : State) (oldest old cur : Point) : State := { s with gcOldest := oldest, gcOld := old, gcCur := cur }

/-- One step, in which the host enqueues these bytes, answers a next state with the property. -/
def sees (s : State) (bytes : List Byte) (p : State → Bool) : Bool :=
  match step { s with input := [.enqueue bytes] } with
  | .next t => p t
  | .fault _ => false
  | .refused _ => false

/-- The command answers a next state with the property. -/
def does (i : Instr) (s : State) (p : State → Bool) : Bool :=
  match exec i s with
  | .next t => p t
  | .fault _ => false
  | .refused _ => false

/-- The bytes decode to the command, with nothing left over. -/
def decodesTo (bytes : List Byte) (i : Instr) : Bool :=
  match decode [] bytes with
  | .ok (j, rest) => j == i && rest == []
  | .error _ => false

/-! ### WellFormed refuses -/

theorem test_char_control_code_refused : (Instr.char 7).wellFormed [] = false := by decide
theorem test_char_delete_refused : (Instr.char 127).wellFormed [] = false := by decide
theorem test_char_glyph_selector_refused : (Instr.char 128).wellFormed [] = false := by decide
theorem test_udg_printable_refused : (Instr.udg 160).wellFormed [] = false := by decide
theorem test_reserved_subcode_cursor_refused : (Instr.vdu23Reserved 1 0 0 0 0 0 0 0 0).wellFormed [] = false := by decide
theorem test_reserved_subcode_tint_refused : (Instr.vdu23Reserved 17 0 0 0 0 0 0 0 0).wellFormed [] = false := by decide

/-- A control code that the table leaves out takes no operand while CTRL_EXT is empty. -/
theorem test_unlisted_with_operand_refused : ∀ i ∈ [Instr.undef01 [0], Instr.undef02 [0], Instr.undef03 [0], Instr.undef04 [0], Instr.undef05 [0], Instr.undef06 [0], Instr.undef08 [0], Instr.undef09 [0], Instr.undef11 [0], Instr.undef14 [0], Instr.undef15 [0], Instr.undef16 [0], Instr.undef20 [0], Instr.undef21 [0], Instr.undef26 [0], Instr.undef27 [0], Instr.undef30 [0]],
    i.wellFormed [] = false := by decide
theorem test_unlisted_missing_operand_refused : (Instr.undef01 []).wellFormed [(1, 1)] = false := by decide

/-! ### A word for every constructor -/

/-- Words of the commands other than PLOT. -/
def words : List (List Byte × Instr) :=
  [([0x00], .nul),
   ([0x07], .bel),
   ([0x0A], .lf),
   ([0x0C], .cls),
   ([0x0D], .cr),
   ([0x11, 0x81], .colour true 1),
   ([0x12, 3, 0x82], .gcol 3 true 2),
   ([0x13, 1, 16, 255, 128, 0], .palette 1 16 255 128 0),
   ([0x16, 156], .mode true 28),
   ([0x18, 0x9C, 0xFF, 0x34, 0x12, 0xFF, 0x04, 0xFF, 0x03], .gwindow (-100) 0x1234 1279 1023),
   ([0x1C, 10, 0, 5, 0, 12, 0, 4, 0], .twindow 10 5 12 4),
   ([0x1D, 0x80, 0x02, 0x00, 0x80], .origin 640 (-32768)),
   ([0x1F, 22, 7], .tab 22 7),
   ([0x20], .char 0x20),
   ([0x7E], .char 0x7E),
   ([0xA0], .char 0xA0),
   ([0xFF], .char 0xFF),
   ([0x7F], .del),
   ([0x80], .udg 0x80),
   ([0x9F], .udg 0x9F),
   ([0x17, 1, 2, 3, 4, 5, 6, 7, 8, 9], .vdu23Cursor 2 3 4 5 6 7 8 9),
   ([0x17, 7, 2, 3, 4, 5, 6, 7, 8, 9], .vdu23Scroll 2 3 4 5 6 7 8 9),
   ([0x17, 16, 2, 3, 4, 5, 6, 7, 8, 9], .vdu23Printdir 2 3 4 5 6 7 8 9),
   ([0x17, 17, 2, 3, 4, 5, 6, 7, 8, 9], .vdu23Tint 2 3 4 5 6 7 8 9),
   ([0x17, 200, 2, 3, 4, 5, 6, 7, 8, 9], .vdu23Reserved 200 2 3 4 5 6 7 8 9)]

/-- Words of the control codes without an entry (R84). -/
def unlistedWords : List (List Byte × Instr) :=
  [([1], .undef01 []), ([2], .undef02 []), ([3], .undef03 []), ([4], .undef04 []), ([5], .undef05 []), ([6], .undef06 []), ([8], .undef08 []), ([9], .undef09 []), ([11], .undef11 []), ([14], .undef14 []), ([15], .undef15 []), ([16], .undef16 []), ([20], .undef20 []), ([21], .undef21 []), ([26], .undef26 []), ([27], .undef27 []), ([30], .undef30 [])]

/-- Words of PLOT, one for each primitive code (R92): all effects and both readings of bit 2 occur. -/
def plotWords : List (List Byte × Instr) :=
  [([0x19, 0x00, 0x40, 0x01, 0xF6, 0xFF], .plot00 false .move 320 (-10)),
   ([0x19, 0x09, 0x40, 0x01, 0xF6, 0xFF], .plot08 false .foreground 320 (-10)),
   ([0x19, 0x12, 0x40, 0x01, 0xF6, 0xFF], .plot10 false .inverse 320 (-10)),
   ([0x19, 0x1B, 0x40, 0x01, 0xF6, 0xFF], .plot18 false .background 320 (-10)),
   ([0x19, 0x24, 0x40, 0x01, 0xF6, 0xFF], .plot20 true .move 320 (-10)),
   ([0x19, 0x2D, 0x40, 0x01, 0xF6, 0xFF], .plot28 true .foreground 320 (-10)),
   ([0x19, 0x36, 0x40, 0x01, 0xF6, 0xFF], .plot30 true .inverse 320 (-10)),
   ([0x19, 0x3F, 0x40, 0x01, 0xF6, 0xFF], .plot38 true .background 320 (-10)),
   ([0x19, 0x40, 0x40, 0x01, 0xF6, 0xFF], .plot40 false .move 320 (-10)),
   ([0x19, 0x49, 0x40, 0x01, 0xF6, 0xFF], .plot48 false .foreground 320 (-10)),
   ([0x19, 0x52, 0x40, 0x01, 0xF6, 0xFF], .plot50 false .inverse 320 (-10)),
   ([0x19, 0x5B, 0x40, 0x01, 0xF6, 0xFF], .plot58 false .background 320 (-10)),
   ([0x19, 0x64, 0x40, 0x01, 0xF6, 0xFF], .plot60 true .move 320 (-10)),
   ([0x19, 0x6D, 0x40, 0x01, 0xF6, 0xFF], .plot68 true .foreground 320 (-10)),
   ([0x19, 0x76, 0x40, 0x01, 0xF6, 0xFF], .plot70 true .inverse 320 (-10)),
   ([0x19, 0x7F, 0x40, 0x01, 0xF6, 0xFF], .plot78 true .background 320 (-10)),
   ([0x19, 0x80, 0x40, 0x01, 0xF6, 0xFF], .plot80 false .move 320 (-10)),
   ([0x19, 0x89, 0x40, 0x01, 0xF6, 0xFF], .plot88 false .foreground 320 (-10)),
   ([0x19, 0x92, 0x40, 0x01, 0xF6, 0xFF], .plot90 false .inverse 320 (-10)),
   ([0x19, 0x9B, 0x40, 0x01, 0xF6, 0xFF], .plot98 false .background 320 (-10)),
   ([0x19, 0xA4, 0x40, 0x01, 0xF6, 0xFF], .plotA0 true .move 320 (-10)),
   ([0x19, 0xAD, 0x40, 0x01, 0xF6, 0xFF], .plotA8 true .foreground 320 (-10)),
   ([0x19, 0xB6, 0x40, 0x01, 0xF6, 0xFF], .plotB0 true .inverse 320 (-10)),
   ([0x19, 0xBF, 0x40, 0x01, 0xF6, 0xFF], .plotB8 true .background 320 (-10)),
   ([0x19, 0xC0, 0x40, 0x01, 0xF6, 0xFF], .plotC0 false .move 320 (-10)),
   ([0x19, 0xC9, 0x40, 0x01, 0xF6, 0xFF], .plotC8 false .foreground 320 (-10)),
   ([0x19, 0xD2, 0x40, 0x01, 0xF6, 0xFF], .plotD0 false .inverse 320 (-10)),
   ([0x19, 0xDB, 0x40, 0x01, 0xF6, 0xFF], .plotD8 false .background 320 (-10)),
   ([0x19, 0xE4, 0x40, 0x01, 0xF6, 0xFF], .plotE0 true .move 320 (-10)),
   ([0x19, 0xED, 0x40, 0x01, 0xF6, 0xFF], .plotE8 true .foreground 320 (-10)),
   ([0x19, 0xF6, 0x40, 0x01, 0xF6, 0xFF], .plotF0 true .inverse 320 (-10)),
   ([0x19, 0xFF, 0x40, 0x01, 0xF6, 0xFF], .plotF8 true .background 320 (-10))]

theorem test_words_decode : ∀ r ∈ words, decodesTo r.1 r.2 = true := by decide
theorem test_unlisted_words_decode : ∀ r ∈ unlistedWords, decodesTo r.1 r.2 = true := by decide
theorem test_plot_words_decode : ∀ r ∈ plotWords, decodesTo r.1 r.2 = true := by decide
theorem test_encode_gives_the_words : ∀ r ∈ words ++ unlistedWords ++ plotWords, encode r.2 = r.1 := by decide

/-- The whole commands of opcodes 23 and 25 have the words of the rows that refine them (R99). -/
theorem test_whole_commands_encode :
    encode (.vdu23 17 2 3 4 5 6 7 8 9) = [0x17, 17, 2, 3, 4, 5, 6, 7, 8, 9] ∧
      encode (.plot 0x45 320 (-10)) = [0x19, 0x45, 0x40, 0x01, 0xF6, 0xFF] := by decide

/-- `CTRL_EXT` as in the V-DEC row with `1 → 1`. -/
theorem test_mapped_code_takes_its_operand : decode [(1, 1)] [1, 65, 66] = .ok (.undef01 [65], [66]) := by rfl

theorem test_truncated_command_is_refused : decode [] [31, 2] = .error (.truncated 31 2) := by rfl

/-- Rows of the opcode table: an 8-bit row, two 16-bit rows with byte 0 in the high half. -/
theorem test_table_words : decodeTableWord 8 0x0A = some .lf ∧
    decodeTableWord 16 0x1701 = some (.vdu23Cursor 0 0 0 0 0 0 0 0) ∧
    decodeTableWord 16 0x1998 = some (.plot98 false .move 0 0) := by decide

/-! ### Steps (V-DEC, V-MODE, V-COL, V-TEXT, V-PLOT, V-WIN, V-23) -/

theorem test_nul_emits_nothing : sees (textAt 0 9 9) [0] (fun t => t.out == [] && t.text == ⟨9, 9⟩ && t.results == [.completed 0 [] .handled]) = true := by decide +kernel
theorem test_bel_rings_and_presents : sees (textAt 0 9 9) [7] (fun t => t.out == [.txt .bell, .ren .present]) = true := by decide +kernel
theorem test_lf_scrolls_on_the_last_line : sees (textAt 0 5 31) [10] (fun t => t.text == ⟨5, 31⟩ && t.out == [.txt (.scrollRequest ⟨.zero, .plus⟩), .ren .present]) = true := by decide +kernel
theorem test_lf_suppressed : sees (textAt 32 7 7) [10] (fun t => t.text == ⟨7, 7⟩ && t.out == []) = true := by decide +kernel
theorem test_cls_homes_right_to_left : sees (textAt 2 9 9) [12] (fun t => t.text == ⟨79, 0⟩ && t.out == [.txt .clearText, .ren .present]) = true := by decide +kernel
theorem test_cr_transposed : sees (textAt 8 17 4) [13] (fun t => t.text == ⟨17, 0⟩ && t.out == []) = true := by decide +kernel
theorem test_cr_ignores_the_multiplier : sees (textAt 32 7 7) [13] (fun t => t.text == ⟨0, 7⟩) = true := by decide +kernel
theorem test_char_wraps_and_scrolls : sees (textAt 0 79 31) [65] (fun t => t.text == ⟨0, 31⟩ &&
    t.out == [.txt (.putChar 65 79 31), .txt (.scrollRequest ⟨.zero, .plus⟩), .ren .present]) = true := by decide +kernel
theorem test_char_upward_columns : sees (textAt 12 3 0) [65] (fun t => t.text == ⟨4, 31⟩ && t.out == [.txt (.putChar 65 3 0), .ren .present]) = true := by decide +kernel
theorem test_udg_prints_its_code : sees (textAt 0 3 3) [128] (fun t => t.text == ⟨4, 3⟩ && t.out == [.txt (.putChar 128 3 3), .ren .present]) = true := by decide +kernel
theorem test_del_goes_to_the_line_before : sees (textAt 0 0 4) [127] (fun t => t.text == ⟨79, 3⟩ && t.out == [.txt (.deleteChar 79 3), .ren .present]) = true := by decide +kernel
theorem test_del_stays_at_home : sees (textAt 0 0 0) [127] (fun t => t.text == ⟨0, 0⟩ && t.out == [.txt (.deleteChar 0 0), .ren .present]) = true := by decide +kernel
theorem test_tab_stores_unchecked : sees (textAt 0 9 9) [31, 255, 255] (fun t => t.text == ⟨255, 255⟩ && t.out == []) = true := by decide +kernel
theorem test_operands_are_no_opcodes : sees start [31, 22, 7] (fun t => t.text == ⟨22, 7⟩ && t.mode.id == 0) = true := by decide +kernel
theorem test_colour_background : sees start [17, 255] (fun t => t.v.textBg == 127 && t.v.textFg == 1) = true := by decide +kernel
theorem test_colour_foreground : sees start [17, 3] (fun t => t.v.textFg == 3 && t.v.textBg == 0) = true := by decide +kernel
theorem test_gcol_background : sees start [18, 3, 130] (fun t => t.v.gfxBg == 2 && t.v.gfxBgAction == 3 && t.v.gfxFg == 1 && t.v.gfxFgAction == 0) = true := by decide +kernel
theorem test_gcol_foreground : sees start [18, 255, 0] (fun t => t.v.gfxFg == 0 && t.v.gfxFgAction == 255 && t.v.gfxBgAction == 0) = true := by decide +kernel
theorem test_palette_is_unsupported : sees start [19, 1, 2, 3, 4, 5] (fun t => t.out == [.sig (.unsupportedOperation 19 none)] && t.palette == start.palette &&
    t.results == [.completed 19 [1, 2, 3, 4, 5] .unsupported]) = true := by decide +kernel
theorem test_mode_activates : sees start [22, 156] (fun t => t.mode == mode28 && t.modeShadow && t.v.gwin == ⟨0, 0, 1279, 959⟩ &&
    t.v.twin == ⟨0, 59, 79, 0⟩ && t.v.gfxFg == 63 && t.out == [.ren (.modeChanged mode28 true), .ren .present]) = true := by decide +kernel
theorem test_mode_unmapped : sees start [22, 227] (fun t => t.mode == mode0 && t.out == [.sig (.noSuchScreenMode 99)] &&
    t.results == [.completed 22 [227] .noSuchMode]) = true := by decide +kernel
theorem test_gwindow_stores_negative : sees start [24, 0x9C, 0xFF, 0x9C, 0xFF, 0x64, 0, 0x63, 0] (fun t => t.v.gwin == ⟨-100, -100, 100, 99⟩) = true := by decide +kernel
theorem test_twindow_stores_text_window : sees start [28, 10, 0, 5, 0, 12, 0, 4, 0] (fun t => t.v.twin == ⟨10, 5, 12, 4⟩ && t.v.gwin == start.v.gwin && t.text == ⟨0, 0⟩) = true := by decide +kernel
theorem test_origin_stores_both_fields : sees start [29, 0xFF, 0xFF, 0x00, 0x80] (fun t => t.origin == ⟨-1, -32768⟩) = true := by decide +kernel
theorem test_cursor_sub_command : sees start [23, 1, 3, 9, 9, 9, 9, 9, 9, 9] (fun t => t.v.cursorAppearance == 3 && t.out == []) = true := by decide +kernel
theorem test_scroll_sub_command : sees start [23, 7, 0, 3, 1, 0, 0, 0, 0, 0] (fun t => t.out == [.ren (.scrollBlock 0 3 1), .ren .present]) = true := by decide +kernel
theorem test_printdir_sub_command : sees (textAt 10 0 0) [23, 16, 2, 253, 0, 0, 0, 0, 0, 0] (fun t => t.flags == 10) = true := by decide +kernel
theorem test_printdir_replaces : sees (textAt 2 0 0) [23, 16, 8, 255, 0, 0, 0, 0, 0, 0] (fun t => t.flags == 10) = true := by decide +kernel
theorem test_tint_sub_command : sees start [23, 17, 2, 0x80, 0, 0, 0, 0, 0, 0] (fun t => t.v.tintGfxFg == 0x80 && t.v.tintTextFg == 0xC0 && t.v.tintGfxBg == 0) = true := by decide +kernel
theorem test_tint_selector_out_of_range : sees start [23, 17, 4, 0x80, 0, 0, 0, 0, 0, 0] (fun t => t.out == [.sig (.protocolError 23 (some 17))] && t.v == start.v) = true := by decide +kernel
theorem test_reserved_sub_code : sees start [23, 22, 1, 2, 3, 4, 5, 6, 7, 8] (fun t => t.out == [.sig (.protocolError 23 (some 22))] &&
    t.results == [.completed 23 [22, 1, 2, 3, 4, 5, 6, 7, 8] .badSubCode] && t.mode.id == 0) = true := by decide +kernel

/-- Every control code without an entry discards its one byte (V-DEC); the 65 after it is an opcode. -/
theorem test_unlisted_codes : ∀ b ∈ [1, 2, 3, 4, 5, 6, 8, 9, 11, 14, 15, 16, 20, 21, 26, 27, 30],
    sees start [BitVec.ofNat 8 b, 65] (fun t => t.text == ⟨1, 0⟩ &&
      t.results == [.rejected (BitVec.ofNat 8 b), .completed 65 [] .handled]) = true := by decide +kernel

theorem test_mapped_code_consumes_its_operand : sees startExt [1, 65] (fun t => t.text == ⟨0, 0⟩ && t.out == [.sig (.unsupportedOperation 1 none)] &&
    t.results == [.completed 1 [65] .unsupported]) = true := by decide +kernel

/-- The V-PLOT rows that draw in mode 12: what each command leaves as current point, and what it emits. -/
theorem test_plot_requests : ∀ r ∈
    [([25, 1, 226, 255, 50, 0], Point.mk 5 65, RenRequest.drawLine ⟨35, 15⟩ ⟨5, 65⟩ 0 .foreground 0 (some white)),
     ([25, 6, 9, 0, 9, 0], ⟨9, 9⟩, .drawLine ⟨35, 15⟩ ⟨9, 9⟩ 0 .inverse 0 none),
     ([25, 7, 9, 0, 9, 0], ⟨9, 9⟩, .drawLine ⟨35, 15⟩ ⟨9, 9⟩ 0 .background 0 (some black)),
     ([25, 13, 1, 0, 1, 0], ⟨1, 1⟩, .drawLine ⟨35, 15⟩ ⟨1, 1⟩ 1 .foreground 0 (some white)),
     ([25, 61, 1, 0, 1, 0], ⟨1, 1⟩, .drawLine ⟨35, 15⟩ ⟨1, 1⟩ 7 .foreground 0 (some white)),
     ([25, 69, 1, 0, 1, 0], ⟨1, 1⟩, .drawPoint ⟨1, 1⟩ .foreground 0 (some white)),
     ([25, 81, 0x9C, 0xFF, 150, 0], ⟨-65, 165⟩, .fillTriangle ⟨1, 2⟩ ⟨35, 15⟩ ⟨-65, 165⟩ .foreground 0 (some white)),
     ([25, 103, 50, 0, 60, 0], ⟨50, 60⟩, .fillRectangle ⟨35, 15⟩ ⟨50, 60⟩ .background 0 (some black)),
     ([25, 149, 8, 0, 5, 0], ⟨8, 5⟩, .drawCircle ⟨35, 15⟩ ⟨8, 5⟩ .foreground 0 (some white)),
     ([25, 157, 8, 0, 5, 0], ⟨8, 5⟩, .fillCircle ⟨35, 15⟩ ⟨8, 5⟩ .foreground 0 (some white))],
    sees (withHistory (inMode mode12) ⟨7, 8⟩ ⟨1, 2⟩ ⟨35, 15⟩) r.1
      (fun t => t.gcCur == r.2.1 && t.gcOld == ⟨35, 15⟩ && t.gcOldest == ⟨1, 2⟩ &&
        t.out == [.ren r.2.2, .ren .present]) = true := by decide +kernel

theorem test_relative_plot_wraps : sees (withHistory start ⟨0, 0⟩ ⟨0, 0⟩ ⟨32767, 0⟩) [25, 0, 1, 0, 0, 0] (fun t => t.gcCur == ⟨-32768, 0⟩ && t.out == []) = true := by decide +kernel
theorem test_move_reports_nothing : sees (withHistory start ⟨0, 0⟩ ⟨0, 0⟩ ⟨5, 5⟩) [25, 184, 1, 0, 1, 0] (fun t => t.gcCur == ⟨6, 6⟩ && t.out == []) = true := by decide +kernel
theorem test_unsupported_primitive_still_shifts : sees (withHistory start ⟨0, 0⟩ ⟨0, 0⟩ ⟨5, 5⟩) [25, 185, 1, 0, 1, 0] (fun t => t.gcCur == ⟨6, 6⟩ && t.gcOld == ⟨5, 5⟩ &&
    t.out == [.sig (.unsupportedOperation 25 (some 0xB8))]) = true := by decide +kernel

/-- P4: at 8 bpp the colour of logical 35 with tint 0x80. -/
theorem test_tinted_point : sees { inMode mode28 with v := { (inMode mode28).v with gfxFg := 35, tintGfxFg := 0x80 } }
    [25, 69, 10, 0, 0xF6, 0xFF] (fun t =>
      t.out == [.ren (.drawPoint ⟨10, -10⟩ .foreground 0 (some ⟨238, 34, 170⟩)), .ren .present]) = true := by decide +kernel

/-- V-DEC: `[31, 2]` waits for its second operand; `cancel` drops it. -/
theorem test_partial_command_waits : sees start [31, 2] (fun t => t.stage == .operand && t.curOp == 31 && t.req == 2 &&
    t.cnt == 1 && t.opbuf.toList.take 1 == [2] && t.results == [] && t.out == []) = true := by decide +kernel

/-- V-PAL: rows of `build(8)`. -/
theorem test_palette_rows : (build .bpp8)[85]? = some ⟨221, 153, 17⟩ ∧ (build .bpp8)[200]? = some ⟨0, 136, 204⟩ ∧
    (build .bpp8)[252]? = some ⟨204, 204, 204⟩ ∧ (build .bpp4)[9]? = some red ∧ (build .bpp2)[2]? = some yellow := by
  decide +kernel

/-- V-TINT: indices at 8 bpp, and the reduction below it. -/
theorem test_colour_index : colourIndex .bpp8 42 0xFF = 211 ∧ colourIndex .bpp8 3 0x40 = 21 ∧ colourIndex .bpp8 192 0x3F = 0 ∧
    colourIndex .bpp2 6 0xFF = 2 ∧ colourIndex .bpp4 23 0 = 7 := by decide

/-- V-FLAGS rows. -/
theorem test_decode_flags : decodeFlags 145 = ⟨⟨.plus, .zero⟩, ⟨.zero, .plus⟩, false, false⟩ ∧
    decodeFlags 10 = ⟨⟨.zero, .plus⟩, ⟨.minus, .zero⟩, false, false⟩ ∧
    decodeFlags 255 = ⟨⟨.zero, .zero⟩, ⟨.zero, .zero⟩, true, true⟩ := by decide

/-- T8: the aspect of modes 0, 1, 3 and 28. -/
theorem test_pixel_aspect : pixelAspect mode0 = (655360, 327680) ∧ pixelAspect mode1 = (327680, 327680) ∧
    pixelAspect mode3 = (1, 1) ∧ pixelAspect mode28 = (614400, 614400) := by decide

/-! ### Values that meet the hypotheses of the statements -/

theorem witness_decodeEncode :
    (Instr.gwindow (-100) 0 1279 1023).wellFormed [] = true ∧ (Instr.char 0xA0).wellFormed [] = true ∧
      (Instr.vdu23Reserved 0 1 2 3 4 5 6 7 8).wellFormed [] = true ∧ (Instr.undef01 [65]).wellFormed [(1, 1)] = true ∧
      Instr.gwindow (-100) 0 1279 1023 ≠ .plot 0 0 0 := by decide

theorem witness_encodeDecode :
    decode [] [0x19, 81, 0x9C, 0xFF, 150, 0, 7] = .ok (.plot50 false .foreground (-100) 150, [7]) := by rfl

theorem witness_decoderRefusesOnlyTruncation :
    operandCount [] 31 ≤ [22, 7].length ∧ [22].length < operandCount [] 31 ∧ operandCount [] 10 ≤ ([] : List Byte).length := by decide

theorem witness_stepRunsDecoded :
    let s : State := { start with input := [.enqueue [31, 22, 7], .cancel] }
    s.atBoundary ∧ s.input = .enqueue [31, 22, 7] :: [.cancel] ∧
      decode s.params.ctrlExt [31, 22, 7] = .ok (.tab 22 7, []) := ⟨⟨rfl, rfl, rfl⟩, rfl, rfl⟩

theorem witness_fetchWord :
    decode start.params.ctrlExt (tableBytes 16 0x1711) = .ok (.vdu23Tint 0 0 0 0 0 0 0 0, []) ∧
      decode start.params.ctrlExt (tableBytes 8 0x0A) = .ok (.lf, [0, 0, 0, 0, 0, 0, 0, 0, 0]) := ⟨rfl, rfl⟩

/-- Both clauses at the ends of their ranges: one operand byte, and nine. -/
theorem witness_nthByte :
    start.atBoundary ∧ isControl 17 = true ∧ controlCount start.params.ctrlExt 17 = some 1 ∧
      ([] : List Byte).length < 1 ∧ ([] : List Byte).length + 1 = 1 ∧ isControl 23 = true ∧
      controlCount start.params.ctrlExt 23 = some 9 ∧ (List.replicate 8 (0 : Byte)).length < 9 ∧
      (List.replicate 8 (0 : Byte)).length + 1 = 9 := ⟨⟨rfl, rfl, rfl⟩, by decide⟩

/-- An opcode byte with one operand outstanding, and with the last of nine. -/
theorem witness_enqueue :
    start.atBoundary ∧ isControl 17 = true ∧ controlCount start.params.ctrlExt 17 = some 1 ∧
      ([] : List Byte).length < 1 ∧ isControl 23 = true ∧ controlCount start.params.ctrlExt 23 = some 9 ∧
      (List.replicate 8 (0 : Byte)).length < 9 := ⟨⟨rfl, rfl, rfl⟩, by decide⟩

theorem witness_noOperand :
    start.stage = .opcode ∧ operandCount start.params.ctrlExt 10 = 0 ∧ operandCount start.params.ctrlExt 255 = 0 ∧
      operandCount start.params.ctrlExt 2 = 0 := by decide

/-- A boundary and a state inside a command, with a byte that completes and a byte that buffers. -/
theorem witness_feedOneResult :
    start.decoderOk ∧ feed 31 start = .next (start.latch 31 2).buffering ∧ (start.latch 31 2).buffering.insideCommand ∧
      feed 22 (start.latch 31 2).buffering = .next (((start.latch 31 2).buffering.storeOperand 22).buffering) ∧
      feed 10 start = exec .lf start :=
  ⟨.inl ⟨rfl, rfl, rfl⟩, rfl, ⟨rfl, by decide, by decide, by decide, rfl, rfl⟩, rfl, rfl⟩

theorem witness_cancel :
    let s : State := { start with input := [.cancel] }
    s.input = .cancel :: [] ∧ s.atBoundary := ⟨rfl, rfl, rfl, rfl⟩

theorem witness_cancelledCommand :
    start.atBoundary ∧ [4, 0x10].length < operandCount start.params.ctrlExt 25 ∧
      feedAll [25, 4, 0x10] start =
        .next ((((start.latch 25 5).buffering.storeOperand 4).buffering.storeOperand 0x10).buffering) :=
  ⟨⟨rfl, rfl, rfl⟩, by decide, rfl⟩

theorem witness_hostReset : ({ start with flags := 9, input := [.reset, .cancel] } : State).input = .reset :: [.cancel] := rfl

/-- The invariant at a boundary and inside a command; by the law of the palette RAM. -/
theorem witness_invariant : start.Inv ∧ ((start.latch 25 5).buffering).Inv :=
  ⟨⟨.inl ⟨rfl, rfl, rfl⟩, fun i h => paletteRam_valid _ _ i h, modeEntry_resetMode _⟩,
   ⟨.inr ⟨rfl, by decide, by decide, by decide, rfl, rfl⟩, fun i h => paletteRam_valid _ _ i h, modeEntry_resetMode _⟩⟩

theorem witness_stepAppends :
    sees start [2] (fun t => t.out == [.sig (.protocolError 2 none)]) = true ∧ does .bel start (fun _ => true) = true := by
  decide +kernel

/-- A command that emits a request, one that emits none, and a `feed` that buffers. -/
theorem witness_present :
    does .bel start (fun t => t.out == [.txt .bell, .ren .present]) = true ∧ does .nul start (fun t => t.out == []) = true ∧
      feed 31 start = .next (start.latch 31 2).buffering := ⟨by decide +kernel, by decide +kernel, rfl⟩

theorem witness_onlyMode :
    does (.mode true 28) start (fun t => t.mode != start.mode && t.modeShadow != start.modeShadow) = true := by decide +kernel

theorem witness_onlyPrintdir :
    does (.vdu23 16 2 0 0 0 0 0 0 0) start (fun t => t.flags != start.flags) = true := by decide +kernel

theorem witness_onlyHistory :
    does (.plot50 true .move 1 1) start (fun t => t.gcCur != start.gcCur) = true ∧
      does (.origin 1 1) start (fun t => t.origin != start.origin) = true := by decide +kernel

/-- One command for each clause about the variable table. -/
theorem witness_onlySlots :
    does (.colour true 3) start (fun t => t.v.textBg != start.v.textBg) = true ∧
      does (.gcol 3 true 0) start (fun t => t.v.gfxBgAction != start.v.gfxBgAction) = true ∧
      does (.vdu23Tint 3 1 0 0 0 0 0 0) start (fun t => t.v.tintGfxBg != start.v.tintGfxBg) = true ∧
      does (.gwindow 1 1 1 1) start (fun t => t.v.gwin != start.v.gwin) = true ∧
      does (.twindow 1 1 1 1) start (fun t => t.v.twin != start.v.twin) = true ∧
      does (.vdu23Cursor 0 0 0 0 0 0 0 0) start (fun t => t.v.cursorAppearance != start.v.cursorAppearance) = true := by
  decide +kernel

/-- The edge of the window and one cell before it. -/
theorem witness_lineStep :
    Spec.lineStep 0 start.v.twin ⟨5, 31⟩ = (⟨5, 31⟩, [.txt (.scrollRequest ⟨.zero, .plus⟩)]) ∧
      Spec.lineStep 0 start.v.twin ⟨5, 30⟩ = (⟨5, 31⟩, []) := by decide +kernel

theorem witness_printing :
    Spec.advance 0 start.v.twin ⟨79, 31⟩ = (⟨0, 31⟩, [.txt (.scrollRequest ⟨.zero, .plus⟩)]) ∧
      Spec.advance 0 start.v.twin ⟨78, 31⟩ = (⟨79, 31⟩, []) := by decide +kernel

theorem witness_delete : Spec.backStep 0 start.v.twin ⟨0, 4⟩ = ⟨79, 3⟩ ∧ Spec.backStep 0 start.v.twin ⟨0, 0⟩ = ⟨0, 0⟩ := by
  decide +kernel

/-- The first cell of a line and the one before its last, in each of the four directions of the advance (flags 0, 2, 8, 12),
in the window of columns 0 to 79 and rows 0 to 31. -/
theorem witness_deleteUndoes :
    (Spec.insideLine 0 79 (Spec.hsign 0) 0 ∧ Spec.insideLine 0 79 (Spec.hsign 0) 78) ∧
      (Spec.insideLine 0 79 (Spec.hsign 2) 79 ∧ Spec.insideLine 0 79 (Spec.hsign 2) 1) ∧
      (Spec.insideLine 0 31 (Spec.vsign 8) 0 ∧ Spec.insideLine 0 31 (Spec.vsign 8) 30) ∧
      (Spec.insideLine 0 31 (Spec.vsign 12) 31 ∧ Spec.insideLine 0 31 (Spec.vsign 12) 1) ∧
      ((0 : Byte).getLsbD 3 = false ∧ (2 : Byte).getLsbD 3 = false ∧ (8 : Byte).getLsbD 3 = true ∧
        (12 : Byte).getLsbD 3 = true) := by
  unfold Spec.insideLine
  decide

theorem witness_flagVectors :
    (255 : Byte).getLsbD 5 = true ∧ ((6 : Byte).getLsbD 5 = false ∧ (6 : Byte).getLsbD 3 = false) ∧
      ((14 : Byte).getLsbD 5 = false ∧ (14 : Byte).getLsbD 3 = true) := by decide

theorem witness_colourByte : 128 ≤ (128 : Byte).toNat ∧ (127 : Byte).toNat < 128 := by decide

theorem witness_paletteEntry : (build .bpp8)[255]? = some ⟨255, 255, 255⟩ ∧ (build .bpp8)[0]? = some ⟨0, 0, 0⟩ := by
  decide +kernel

theorem witness_tintedIndex : colourIndex .bpp8 0x40 0x3F = colourIndex .bpp8 0x80 0 := by decide

theorem witness_mappedMode : modeEntry start.params 28 = some mode28 ∧ modeEntry start.params 0 = some mode0 := by decide

theorem witness_unmappedMode : modeEntry start.params 99 = none ∧ modeEntry start.params 127 = none := by decide

theorem witness_modeLookup :
    resolveMode (paramsT []) 156 = .found mode28 ∧ resolveMode (paramsT []) 227 = .noSuchMode 99 := by decide

/-- Two sessions that differ in their mode, their colours and their history. -/
theorem witness_modeForgets :
    let s1 : State := start
    let s2 : State := withHistory (inMode mode12) ⟨1, 2⟩ ⟨3, 4⟩ ⟨5, 6⟩
    s1.params = s2.params ∧ s1.flags = s2.flags ∧ s1.v.cursorAppearance = s2.v.cursorAppearance ∧
      modeEntry s1.params 28 = some mode28 ∧ does (.mode false 28) s1 (fun _ => true) = true ∧
      does (.mode false 28) s2 (fun _ => true) = true := by decide +kernel

theorem witness_pixelAspect : (mode3.pixelWidth = 0 ∨ mode3.pixelHeight = 0) ∧ mode28.pixelWidth ≠ 0 ∧
    mode28.pixelHeight ≠ 0 := by decide

theorem witness_tintSelector : (3 : Byte).toNat < 4 ∧ (0 : Byte).toNat < 4 := by decide

theorem witness_badSubCode :
    4 ≤ (4 : Byte).toNat ∧ 4 ≤ (255 : Byte).toNat ∧
      ((2 : Byte) ≠ 1 ∧ (2 : Byte) ≠ 7 ∧ (2 : Byte) ≠ 16 ∧ (2 : Byte) ≠ 17) := by decide

/-- Without and with an entry in CTRL_EXT. -/
theorem witness_unlisted :
    (30, Instr.undef30) ∈ Spec.unlisted ∧ controlCount start.params.ctrlExt 30 = none ∧
      (1, Instr.undef01) ∈ Spec.unlisted ∧ controlCount startExt.params.ctrlExt 1 = some 1 :=
  ⟨by simp [Spec.unlisted], rfl, by simp [Spec.unlisted], rfl⟩

theorem witness_unlistedByte :
    start.stage = .opcode ∧ start.params.ctrlExt = [] ∧ (30 : Byte).toNat < 32 ∧
      (30 : Byte).toNat ∉ [0, 7, 10, 12, 13, 17, 18, 19, 22, 23, 24, 25, 28, 29, 31] ∧
      (31 : Byte).toNat ∈ [0, 7, 10, 12, 13, 17, 18, 19, 22, 23, 24, 25, 28, 29, 31] := by decide

theorem witness_everyPlot : (Instr.plotF8 : Spec.PlotForm) ∈ Spec.supported.map (·.1) ++ Spec.unsupported.map (·.1) := by
  simp [Spec.supported, Spec.unsupported]

theorem witness_plotMove :
    ((Instr.plotB8 : Spec.PlotForm), (0xB8 : Byte)) ∈ Spec.supported.map (fun r => (r.1, r.2.1)) ++ Spec.unsupported := by
  simp [Spec.supported, Spec.unsupported]

/-- Each of the three drawing effects meets the hypothesis about the colour. -/
theorem witness_plotDraws :
    (Instr.plot50, (0x50 : Byte), RenRequest.fillTriangle) ∈ Spec.supported ∧
      Spec.drawingColour start .foreground = some (.foreground, some white, 0) ∧
      Spec.drawingColour start .inverse = some (.inverse, none, 0) ∧
      Spec.drawingColour start .background = some (.background, some black, 0) :=
  ⟨by simp [Spec.supported], by decide +kernel, by decide +kernel, by decide +kernel⟩

theorem witness_plotUnsupported : (Instr.plot48, (0x48 : Byte)) ∈ Spec.unsupported ∧ PlotEffect.inverse ≠ .move :=
  ⟨by simp [Spec.unsupported], by decide⟩

end Sys2Proof.Tests
end

section
/-! PROOFS. The word operands (O46), and the record of a session: what a command adds to it and that a step only adds
(O18). -/

namespace Sys2Proof.Machine

/-! ### Word operands -/

/-- `le16` is `sext_16` of the unsigned word (R7, R65). -/
theorem le16_toInt (lo hi : Byte) :
    (le16 lo hi).toInt =
      if hi.toNat * 256 + lo.toNat < 32768 then (hi.toNat * 256 + lo.toNat : Int)
      else (hi.toNat * 256 + lo.toNat : Int) - 65536 := by
  rw [BitVec.toInt_eq_toNat_cond, le16_toNat]
  by_cases h : hi.toNat * 256 + lo.toNat < 32768
  · rw [if_pos (by omega), if_pos h]
    push_cast
    rfl
  · rw [if_neg (by omega), if_neg h]
    push_cast
    rfl

/-- Settles O46: the value is the sign-extended word, and splitting a word undoes `le16`. -/
theorem wordOperandsAreLittleEndian : Obligations.WordOperandsAreLittleEndian :=
  fun lo hi => ⟨le16_toInt lo hi, loByte_le16 lo hi, hiByte_le16 lo hi⟩

/-! ### What a handler emits -/

/-- What a handler may emit before `PresentIfNeeded`: one signal and nothing else (R315), or requests on `REN` and `TXT`,
none of them `Present` (R71). -/
def HandlerEmission (ev : List Event) : Prop :=
  (∃ g, ev = [.sig g]) ∨ ∀ e ∈ ev, e.isRequest = true ∧ e ≠ .ren .present

theorem HandlerEmission.nil : HandlerEmission [] := .inr (by simp)

theorem HandlerEmission.signal (g : Signal) : HandlerEmission [.sig g] := .inl ⟨g, rfl⟩

theorem HandlerEmission.ren {r : RenRequest} (h : r ≠ .present) : HandlerEmission [.ren r] :=
  .inr (by simpa [Event.isRequest] using h)

theorem HandlerEmission.txt (r : TxtRequest) : HandlerEmission [.txt r] := .inr (by simp [Event.isRequest])

/-- A line step emits as a handler may (R197). -/
theorem lineStep_emission (f : Byte) (w : Window) (c : Cell) : HandlerEmission (lineStep f w c).events := by
  rcases lineStep_events f w c with h | h <;> rw [h]
  · exact .nil
  · exact .txt _

/-- Printing a code emits `PutChar`, and after it at most a scroll request (R216, R218). -/
theorem printCode_emission (code : Byte) (s : State) : HandlerEmission (printCode code s).events := by
  rcases advance_events s.flags s.v.twin s.text with h | h <;>
    simp [printCode, h, HandlerEmission, Event.isRequest]

/-- MODE emits `ModeChanged` or `NoSuchScreenMode` (R148, R149). -/
theorem modeReply_emission (sh : Bool) (n : ModeNumber) (s : State) : HandlerEmission (modeReply sh n s).events := by
  rcases modeReply_cases sh n s with ⟨-, h⟩ | ⟨d, -, -, h⟩ <;> rw [h]
  · exact .signal _
  · exact .ren (by simp)

/-- TINT emits nothing, or `ProtocolError` for a selector out of range (R287, R288). -/
theorem tintReply_emission (n v : Byte) (s : State) : HandlerEmission (tintReply n v s).events := by
  rcases tintReply_cases n v s with ⟨w, h⟩ | h <;> rw [h]
  · exact .nil
  · exact .signal _

theorem scrollReply_emission (extent direction movement : Byte) (s : State) :
    HandlerEmission (scrollReply extent direction movement s).events :=
  .ren (by simp)

/-- VDU23 emits what the sub-command that the sub-code selects emits (R280). -/
theorem vdu23Reply_emission (sub p1 p2 p3 : Byte) (s : State) : HandlerEmission (vdu23Reply sub p1 p2 p3 s).events := by
  unfold vdu23Reply
  split
  · exact .nil
  · split
    · exact scrollReply_emission p1 p2 p3 s
    · split
      · exact .nil
      · split
        · exact tintReply_emission p1 p2 s
        · exact .signal _

/-- No primitive draws by `Present` (R239, R240). -/
theorem drawRequest_ne_present (s : State) (prim : Primitive) (e : DrawEffect) (action : Byte) (colour : Option Colour) :
    drawRequest s prim e action colour ≠ .present := by
  cases prim <;> simp [drawRequest]

/-- The drawing half of PLOT emits one request or one signal (R238). -/
theorem drawReply_emission (code : Byte) (e : DrawEffect) (s : State) : HandlerEmission (drawReply code e s).events := by
  rcases drawReply_cases code e s with ⟨-, h⟩ | ⟨prim, -, h⟩ <;> rw [h]
  · exact .signal _
  · exact .ren (drawRequest_ne_present s prim e _ _)

theorem plotReply_emission (code : Byte) (absolute : Bool) (e : PlotEffect) (x y : S16) (s : State) :
    HandlerEmission (plotReply code absolute e x y s).events := by
  cases e with
  | move => exact .nil
  | foreground => exact drawReply_emission code .foreground _
  | inverse => exact drawReply_emission code .inverse _
  | background => exact drawReply_emission code .background _

/-! ### What a command emits -/

/-- A signal is no request, so no `Present` follows it (R71). -/
theorem presentIfNeeded_signal (g : Signal) : presentIfNeeded [.sig g] = [] := rfl

/-- `PresentIfNeeded` raises no signal (R71). -/
theorem presentIfNeeded_signals (ev : List Event) : (presentIfNeeded ev).filter Event.isSignal = [] := by
  unfold presentIfNeeded
  split <;> rfl

theorem Event.isSignal_of_isRequest {e : Event} (h : e.isRequest = true) : e.isSignal = false := by
  cases e with
  | sig g => cases h
  | _ => rfl

/-- A handler raises at most one signal (R314). -/
theorem HandlerEmission.signals_le_one {ev : List Event} (h : HandlerEmission ev) :
    (ev.filter Event.isSignal).length ≤ 1 := by
  rcases h with ⟨g, rfl⟩ | h
  · exact Nat.le_refl 1
  · have none_kept : ev.filter Event.isSignal = [] :=
      List.filter_eq_nil_iff.mpr fun e he => by simp [Event.isSignal_of_isRequest (h e he).1]
    simp [none_kept]

/-- The outcome is a next state that has appended to the record what a handler may emit, then the `Present` that is due. -/
def Emits (s : State) (o : Result) : Prop :=
  ∃ t ev, o = .next t ∧ HandlerEmission ev ∧ t.out = s.out ++ ev ++ presentIfNeeded ev

theorem finish_emits {s : State} {i : Instr} {r : Reply} (hout : r.state.out = s.out) (hev : HandlerEmission r.events) :
    Emits s (finish i r) :=
  ⟨finished i r, r.events, rfl, hev, by rw [finished_out, hout]⟩

/-- A control code without a table entry emits one signal, whether it is discarded or has a handler (R300, R302). -/
theorem unlistedControl_emits (op : Byte) (i : Instr) (s : State) : Emits s (unlistedControl op i s) := by
  rcases unlistedControl_cases op i s with ⟨-, h⟩ | ⟨n, -, h⟩ <;> rw [h]
  · exact ⟨_, _, rfl, .signal (.protocolError op none), by simp [presentIfNeeded_signal]⟩
  · exact finish_emits rfl (.signal _)

/-- EVERYTHING `exec` CAN EMIT: what its handler may emit, then the `Present` that is due (R71, R118). -/
theorem exec_emits (i : Instr) (s : State) : Emits s (exec i s) := by
  cases i with
  | nul | cr | colour | gcol | gwindow | twindow | origin | tab | vdu23Cursor | vdu23Printdir =>
    exact finish_emits rfl .nil
  | bel | cls | del => exact finish_emits rfl (.txt _)
  | palette | vdu23Reserved => exact finish_emits rfl (.signal _)
  | lf => exact finish_emits rfl (lineStep_emission _ _ _)
  | char code | udg code => exact finish_emits rfl (printCode_emission code s)
  | mode sh n => exact finish_emits (modeReply_session sh n s).out (modeReply_emission sh n s)
  | vdu23 sub p1 p2 p3 =>
    exact finish_emits (vdu23Reply_session sub p1 p2 p3 s).out (vdu23Reply_emission sub p1 p2 p3 s)
  | vdu23Scroll e d m => exact finish_emits rfl (scrollReply_emission e d m s)
  | vdu23Tint n v => exact finish_emits (tintReply_session n v s).out (tintReply_emission n v s)
  | undef01 | undef02 | undef03 | undef04 | undef05 | undef06 | undef08 | undef09 | undef11 | undef14 | undef15 | undef16
  | undef20 | undef21 | undef26 | undef27 | undef30 => exact unlistedControl_emits _ _ s
  | plot | plot00 | plot08 | plot10 | plot18 | plot20 | plot28 | plot30 | plot38 | plot40 | plot48 | plot50 | plot58
  | plot60 | plot68 | plot70 | plot78 | plot80 | plot88 | plot90 | plot98 | plotA0 | plotA8 | plotB0 | plotB8 | plotC0
  | plotC8 | plotD0 | plotD8 | plotE0 | plotE8 | plotF0 | plotF8 =>
    exact finish_emits (plotReply_session _ _ _ _ _ s).out (plotReply_emission _ _ _ _ _ s)

/-- A command appends at most one signal (R314). -/
theorem exec_signals_le_one {i : Instr} {s t : State} (h : exec i s = .next t) :
    ∃ ev, t.out = s.out ++ ev ∧ (ev.filter Event.isSignal).length ≤ 1 := by
  obtain ⟨u, ev, hu, hev, hout⟩ := exec_emits i s
  obtain rfl : u = t := by simpa [hu] using h
  refine ⟨ev ++ presentIfNeeded ev, by rw [hout, List.append_assoc], ?_⟩
  rw [List.filter_append, presentIfNeeded_signals, List.append_nil]
  exact hev.signals_le_one

/-! ### The record only grows -/

/-- The second state has the parameters of the first, and its record begins with that of the first. -/
structure RecordGrows (s t : State) : Prop where
  params : t.params = s.params
  out : s.out <+: t.out
  results : s.results <+: t.results

theorem RecordGrows.of_kept {s t : State} (hparams : t.params = s.params) (hout : t.out = s.out)
    (hresults : t.results = s.results) : RecordGrows s t :=
  ⟨hparams, by rw [hout], by rw [hresults]⟩

theorem RecordGrows.refl (s : State) : RecordGrows s s := .of_kept rfl rfl rfl

theorem RecordGrows.trans {s t u : State} (h : RecordGrows s t) (h' : RecordGrows t u) : RecordGrows s u :=
  ⟨h'.params.trans h.params, h.out.trans h'.out, h.results.trans h'.results⟩

/-- A `Buffered` result only extends the record (R113). -/
theorem buffering_grows (s : State) : RecordGrows s s.buffering :=
  ⟨rfl, List.prefix_rfl, List.prefix_append _ _⟩

/-- A command only extends the record: it is finished on a reply that kept it, or its byte is discarded. -/
theorem exec_grows {i : Instr} {s t : State} (h : exec i s = .next t) : RecordGrows s t := by
  rcases exec_cases i s with ⟨r, hr, same⟩ | ⟨hr, -⟩
  · obtain rfl : finished i r = t := by simpa [hr] using h
    exact
      { params := same.params
        out := by rw [finished_out, same.out, List.append_assoc]; exact List.prefix_append _ _
        results := by rw [finished_results, same.results]; exact List.prefix_append _ _ }
  · obtain rfl : rejected i.opcode s = t := by simpa [hr] using h
    exact ⟨rfl, List.prefix_append _ _, List.prefix_append _ _⟩

theorem runCommand_grows {op : Byte} {ops : List Byte} {s t : State} (h : runCommand op ops s = .next t) :
    RecordGrows s t := by
  cases hc : command op ops with
  | none => simp [runCommand, hc] at h
  | some i => exact exec_grows (runCommand_of_command hc s ▸ h)

/-- One `feed` only extends the record, in either stage (R112, R114). -/
theorem feed_grows {b : Byte} {s t : State} (h : feed b s = .next t) : RecordGrows s t := by
  cases hs : s.stage with
  | opcode =>
    rcases feed_opcode_cases b s hs with ⟨-, hf⟩ | ⟨n, -, hf⟩
    · exact runCommand_grows (hf ▸ h)
    · obtain rfl : (s.latch b (n + 1)).buffering = t := by simpa [hf] using h
      have latched : RecordGrows s (s.latch b (n + 1)) := .of_kept rfl rfl rfl
      exact latched.trans (buffering_grows _)
  | operand =>
    have stored : RecordGrows s (s.storeOperand b) := .of_kept rfl rfl rfl
    rcases feed_operand_cases b s hs with ⟨-, hf⟩ | ⟨-, hf⟩
    · have atOpcode : RecordGrows (s.storeOperand b) (s.storeOperand b).toOpcode := .of_kept rfl rfl rfl
      exact (stored.trans atOpcode).trans (runCommand_grows (hf ▸ h))
    · obtain rfl : (s.storeOperand b).buffering = t := by simpa [hf] using h
      exact stored.trans (buffering_grows _)

theorem feedAll_grows {bytes : List Byte} {s t : State} (h : feedAll bytes s = .next t) : RecordGrows s t := by
  induction bytes generalizing s with
  | nil =>
    obtain rfl : s = t := by simpa [feedAll] using h
    exact .refl s
  | cons b bytes ih =>
    cases hf : feed b s with
    | next u => exact (feed_grows hf).trans (ih (feedAll_cons b bytes s u hf ▸ h))
    | fault r => simp [feedAll, hf] at h
    | refused r => simp [feedAll, hf] at h

/-- What an `enqueue` leaves: its bytes have been fed with an empty list of results, and those that it hands back stand
behind the earlier ones (R124). -/
theorem enqueue_next {bytes : List Byte} {s t : State} (h : enqueue bytes s = .next t) :
    ∃ u, feedAll bytes { s with results := [] } = .next u ∧
      t = { u with results := s.results ++ withoutBuffered u.results } := by
  unfold enqueue at h
  cases hf : feedAll bytes { s with results := [] } with
  | next u => exact ⟨u, rfl, by simpa [hf] using h.symm⟩
  | fault r => simp [hf] at h
  | refused r => simp [hf] at h

/-- An `enqueue` only extends the record: what it fed grew the emissions, and the results are put behind the old ones. -/
theorem enqueue_grows {bytes : List Byte} {s t : State} (h : enqueue bytes s = .next t) : RecordGrows s t := by
  obtain ⟨u, hu, rfl⟩ := enqueue_next h
  have fed := feedAll_grows hu
  exact ⟨fed.params, fed.out, List.prefix_append _ _⟩

/-- Every move of the host only extends the record; a reset keeps it (log entry 14). -/
theorem perform_grows {op : HostOp} {s t : State} (h : perform op s = .next t) : RecordGrows s t := by
  cases op with
  | feed b => exact feed_grows h
  | enqueue bytes => exact enqueue_grows h
  | cancel =>
    obtain rfl : s.toOpcode = t := by simpa [perform, cancel] using h
    exact .of_kept rfl rfl rfl
  | reset =>
    cases h
    exact .of_kept rfl rfl rfl

theorem step_grows {s t : State} (h : step s = .next t) : RecordGrows s t := by
  cases hi : s.input with
  | nil =>
    obtain rfl : s = t := by simpa [step, hi] using h
    exact .refl s
  | cons op rest =>
    have taken : RecordGrows s { s with input := rest } := .of_kept rfl rfl rfl
    exact taken.trans (perform_grows (step_cons s op rest hi ▸ h))

/-- Settles O18: every move of the host only extends the record, and a command emits what one handler may emit. -/
theorem stepAppendsToTheRecord : Obligations.StepAppendsToTheRecord := by
  refine ⟨fun s t h => ?_, fun i s t h => exec_signals_le_one h⟩
  obtain ⟨hparams, hout, hresults⟩ := step_grows h
  exact ⟨hparams, hout, hresults⟩

end Sys2Proof.Machine
end

section
/-! PROOFS. What each command writes of the session's own registers (O20 to O23), and the invariant of the machine: it
holds at reset, every move of the host keeps it, and so no input stops the machine (O15, O16, O17). -/

namespace Sys2Proof.Machine

/-! ### What a command writes -/

/-- What the handler of a command may leave of the state it runs in: one named update, under the condition on the command
that makes it. A slot of the table that a command of the group does not name is written with the value it had. -/
inductive HandlerWrites (i : Instr) (s : State) : State → Prop where
  | nothing : HandlerWrites i s s
  | text (c : Cell) : HandlerWrites i s (s.setText c)
  /-- PRINTDIR, by itself or as a whole VDU23 (R286). -/
  | flags (x y p3 p4 p5 p6 p7 p8 : Byte) (h : i.refined = .vdu23Printdir x y p3 p4 p5 p6 p7 p8) :
      HandlerWrites i s (s.setFlags ((s.flags &&& y) ^^^ x))
  /-- PLOT, in any of its forms (R233). -/
  | history (p : Point) (h : i.opcode = 25) : HandlerWrites i s (s.recordPlot p)
  | origin (p : Point) (h : i.opcode = 29) : HandlerWrites i s (s.setOrigin p)
  /-- MODE, with a number that the mode table maps (R148). -/
  | mode (shadow : Bool) (d : ModeDesc) (h : i = .mode shadow d.id) (mapped : modeEntry s.params d.id = some d) :
      HandlerWrites i s (s.activateMode d shadow)
  | textColours (fg bg : Logical) (h : i.opcode = 17) :
      HandlerWrites i s (s.setVars { s.v with textFg := fg, textBg := bg })
  | gfxColours (fg bg : Logical) (fgAction bgAction : Byte) (h : i.opcode = 18) :
      HandlerWrites i s
        (s.setVars { s.v with gfxFg := fg, gfxBg := bg, gfxFgAction := fgAction, gfxBgAction := bgAction })
  | tints (textFg textBg gfxFg gfxBg : Byte) (h : i.opcode = 23) :
      HandlerWrites i s
        (s.setVars { s.v with
          tintTextFg := textFg, tintTextBg := textBg, tintGfxFg := gfxFg, tintGfxBg := gfxBg })
  | cursorAppearance (n : Byte) (h : i.opcode = 23) : HandlerWrites i s (s.setVars { s.v with cursorAppearance := n })
  | gwin (w : Window) (h : i.opcode = 24) : HandlerWrites i s (s.setVars { s.v with gwin := w })
  | twin (w : Window) (h : i.opcode = 28) : HandlerWrites i s (s.setVars { s.v with twin := w })

/-- The outcome is a next state that differs from one a handler may leave in the record and the counter alone. -/
def Writes (i : Instr) (s : State) (o : Result) : Prop :=
  ∃ u out results tick,
    o = .next { u with out := out, results := results, tick := tick } ∧ HandlerWrites i s u

theorem finish_writes {i : Instr} {s : State} {r : Reply} (h : HandlerWrites i s r.state) : Writes i s (finish i r) :=
  ⟨r.state, _, _, _, rfl, h⟩

/-- MODE activates the descriptor its number is mapped to, or writes nothing (R148, R149). -/
theorem modeReply_writes (sh : Bool) (n : ModeNumber) (s : State) :
    HandlerWrites (.mode sh n) s (modeReply sh n s).state := by
  rcases modeReply_cases sh n s with ⟨-, h⟩ | ⟨d, mapped, rfl, h⟩ <;> rw [h]
  · exact .nothing
  · exact .mode sh d rfl mapped

/-- The tint sub-command writes one tint, or nothing (R287, R288). -/
theorem tintReply_writes {i : Instr} (h : i.opcode = 23) (n v : Byte) (s : State) :
    HandlerWrites i s (tintReply n v s).state := by
  unfold tintReply
  split
  · exact .tints v _ _ _ h
  · exact .tints _ v _ _ h
  · exact .tints _ _ v _ h
  · exact .tints _ _ _ v h
  · exact .nothing

/-- VDU23 writes what the sub-command that the sub-code selects writes (R280). -/
theorem vdu23Reply_writes (sub p1 p2 p3 p4 p5 p6 p7 p8 : Byte) (s : State) :
    HandlerWrites (.vdu23 sub p1 p2 p3 p4 p5 p6 p7 p8) s (vdu23Reply sub p1 p2 p3 s).state := by
  unfold vdu23Reply
  split
  · exact .cursorAppearance p1 rfl
  · split
    · exact .nothing
    · split
      · next printdir =>
        subst printdir
        exact .flags p1 p2 p3 p4 p5 p6 p7 p8 rfl
      · split
        · exact tintReply_writes rfl p1 p2 s
        · exact .nothing

/-- PLOT writes the history, whatever it draws (R233). -/
theorem plotReply_writes {i : Instr} (h : i.opcode = 25) (code : Byte) (absolute : Bool) (e : PlotEffect) (x y : S16)
    (s : State) : HandlerWrites i s (plotReply code absolute e x y s).state := by
  rw [plotReply_state]
  exact .history _ h

/-- A control code without a table entry writes nothing, whether it is discarded or has a handler (R300, R302). -/
theorem unlistedControl_writes (op : Byte) (i : Instr) (s : State) : Writes i s (unlistedControl op i s) := by
  rcases unlistedControl_cases op i s with ⟨-, h⟩ | ⟨n, -, h⟩ <;> rw [h]
  · exact ⟨s, _, _, s.tick, rfl, .nothing⟩
  · exact finish_writes .nothing

/-- EVERYTHING `exec` CAN WRITE: one named update of the session's own registers, and the record. It never stops. -/
theorem exec_writes (i : Instr) (s : State) : Writes i s (exec i s) := by
  cases i with
  | nul | bel | palette | vdu23Scroll | vdu23Reserved => exact finish_writes .nothing
  | lf | cls | cr | tab | char | del | udg => exact finish_writes (.text _)
  | colour background c =>
    cases background with
    | false => exact finish_writes (.textColours c s.v.textBg rfl)
    | true => exact finish_writes (.textColours s.v.textFg c rfl)
  | gcol action background c =>
    cases background with
    | false => exact finish_writes (.gfxColours c s.v.gfxBg action s.v.gfxBgAction rfl)
    | true => exact finish_writes (.gfxColours s.v.gfxFg c s.v.gfxFgAction action rfl)
  | mode sh n => exact finish_writes (modeReply_writes sh n s)
  | gwindow => exact finish_writes (.gwin _ rfl)
  | twindow => exact finish_writes (.twin _ rfl)
  | origin => exact finish_writes (.origin _ rfl)
  | vdu23 sub p1 p2 p3 p4 p5 p6 p7 p8 => exact finish_writes (vdu23Reply_writes sub p1 p2 p3 p4 p5 p6 p7 p8 s)
  | vdu23Cursor n => exact finish_writes (.cursorAppearance n rfl)
  | vdu23Printdir x y p3 p4 p5 p6 p7 p8 => exact finish_writes (.flags x y p3 p4 p5 p6 p7 p8 rfl)
  | vdu23Tint n v => exact finish_writes (tintReply_writes rfl n v s)
  | undef01 | undef02 | undef03 | undef04 | undef05 | undef06 | undef08 | undef09 | undef11 | undef14 | undef15 | undef16
  | undef20 | undef21 | undef26 | undef27 | undef30 => exact unlistedControl_writes _ _ s
  | plot | plot00 | plot08 | plot10 | plot18 | plot20 | plot28 | plot30 | plot38 | plot40 | plot48 | plot50 | plot58
  | plot60 | plot68 | plot70 | plot78 | plot80 | plot88 | plot90 | plot98 | plotA0 | plotA8 | plotB0 | plotB8 | plotC0
  | plotC8 | plotD0 | plotD8 | plotE0 | plotE8 | plotF0 | plotF8 =>
    exact finish_writes (plotReply_writes rfl _ _ _ _ _ s)

/-- The state a command leaves, as an update that its handler may make and a record. -/
theorem exec_next_writes {i : Instr} {s t : State} (h : exec i s = .next t) :
    ∃ u out results tick, t = { u with out := out, results := results, tick := tick } ∧ HandlerWrites i s u := by
  obtain ⟨u, out, results, tick, hu, w⟩ := exec_writes i s
  exact ⟨u, out, results, tick, by simpa [hu] using h.symm, w⟩

/-! ### Who writes what -/

section
variable {i : Instr} {s u : State}

/-- Only a mapped MODE writes the mode, its shadow bit and the palette (R27, R28). -/
theorem HandlerWrites.screen (w : HandlerWrites i s u) :
    (u.mode = s.mode ∧ u.modeShadow = s.modeShadow ∧ u.palette = s.palette) ∨
      ∃ sh n d, i = .mode sh n ∧ modeEntry s.params n = some d := by
  cases w with
  | mode sh d h mapped => exact .inr ⟨sh, d.id, d, h, mapped⟩
  | nothing | text | flags | history | origin | textColours | gfxColours | tints | cursorAppearance | gwin | twin =>
    exact .inl ⟨rfl, rfl, rfl⟩

/-- Only PRINTDIR writes the flags; MODE keeps them (R32, R286). -/
theorem HandlerWrites.printdir (w : HandlerWrites i s u) :
    u.flags = s.flags ∨
      ∃ x y p3 p4 p5 p6 p7 p8, i.refined = .vdu23Printdir x y p3 p4 p5 p6 p7 p8 ∧ u.flags = (s.flags &&& y) ^^^ x := by
  cases w with
  | flags x y p3 p4 p5 p6 p7 p8 h => exact .inr ⟨x, y, p3, p4, p5, p6, p7, p8, h, rfl⟩
  | nothing | text | history | origin | mode | textColours | gfxColours | tints | cursorAppearance | gwin | twin =>
    exact .inl rfl

/-- Only PLOT and MODE write the history (R29, R233). -/
theorem HandlerWrites.points (w : HandlerWrites i s u) :
    (u.gcCur = s.gcCur ∧ u.gcOld = s.gcOld ∧ u.gcOldest = s.gcOldest) ∨ i.opcode = 25 ∨ i.opcode = 22 := by
  cases w with
  | history p h => exact .inr (.inl h)
  | mode sh d h => exact .inr (.inr (h ▸ rfl))
  | nothing | text | flags | origin | textColours | gfxColours | tints | cursorAppearance | gwin | twin =>
    exact .inl ⟨rfl, rfl, rfl⟩

/-- Only ORIGIN and MODE write the origin (R30). -/
theorem HandlerWrites.originPoint (w : HandlerWrites i s u) :
    u.origin = s.origin ∨ i.opcode = 29 ∨ i.opcode = 22 := by
  cases w with
  | origin p h => exact .inr (.inl h)
  | mode sh d h => exact .inr (.inr (h ▸ rfl))
  | nothing | text | flags | history | textColours | gfxColours | tints | cursorAppearance | gwin | twin =>
    exact .inl rfl

end

/-- Settles O20: every other update keeps the mode, its shadow bit and the palette. -/
theorem onlyModeWritesModeAndPalette : Obligations.OnlyModeWritesModeAndPalette := by
  intro i s t h changed
  obtain ⟨u, out, results, tick, rfl, w⟩ := exec_next_writes h
  rcases w.screen with ⟨hmode, hshadow, hpalette⟩ | mapped
  · simp [hmode, hshadow, hpalette] at changed
  · exact mapped

/-- Settles O21: every other update keeps the flags. -/
theorem onlyPrintdirWritesFlags : Obligations.OnlyPrintdirWritesFlags := by
  intro i s t h changed
  obtain ⟨u, out, results, tick, rfl, w⟩ := exec_next_writes h
  exact w.printdir.resolve_left changed

/-- Settles O22: every other update keeps the history, or the origin. -/
theorem onlyPlotAndModeWriteHistory : Obligations.OnlyPlotAndModeWriteHistory := by
  intro i s t h
  obtain ⟨u, out, results, tick, rfl, w⟩ := exec_next_writes h
  refine ⟨fun changed => ?_, w.originPoint.resolve_left⟩
  rcases w.points with ⟨hcur, hold, holdest⟩ | writer
  · simp [hcur, hold, holdest] at changed
  · exact writer

/-- Settles O23: each update of the variable table names its slots and its opcode. -/
theorem onlyNamedCommandsWriteSlots : Obligations.OnlyNamedCommandsWriteSlots := by
  intro i s t h notMode
  obtain ⟨u, out, results, tick, rfl, w⟩ := exec_next_writes h
  cases w with
  | mode sh d hi => exact absurd (hi ▸ rfl) notMode
  | nothing | text | flags | history | origin => simp
  | textColours _ _ hop => simp [hop]
  | gfxColours _ _ _ _ hop => simp [hop]
  | tints _ _ _ _ hop => simp [hop]
  | cursorAppearance _ hop => simp [hop]
  | gwin _ hop => simp [hop]
  | twin _ hop => simp [hop]

/-! ### A command for every opcode and its operands -/

/-- A listed control code has a command for every list of as many operands as its entry says (R83). -/
theorem controlCommand_of_listed {op : Byte} {n : Nat} (h : (op, n) ∈ controlTable) {ops : List Byte}
    (hn : ops.length = n) : (controlCommand op.toNat ops).isSome := by
  subst hn
  simp only [controlTable, vdu19Len, List.mem_cons, Prod.mk.injEq, List.not_mem_nil, or_false] at h
  rcases h with ⟨rfl, h⟩ | ⟨rfl, h⟩ | ⟨rfl, h⟩ | ⟨rfl, h⟩ | ⟨rfl, h⟩ | ⟨rfl, h⟩ | ⟨rfl, h⟩ | ⟨rfl, h⟩ | ⟨rfl, h⟩ |
    ⟨rfl, h⟩ | ⟨rfl, h⟩ | ⟨rfl, h⟩ | ⟨rfl, h⟩ | ⟨rfl, h⟩ | ⟨rfl, h⟩
  · match ops, h with | [], _ => rfl
  · match ops, h with | [], _ => rfl
  · match ops, h with | [], _ => rfl
  · match ops, h with | [], _ => rfl
  · match ops, h with | [], _ => rfl
  · match ops, h with | [_], _ => rfl
  · match ops, h with | [_, _], _ => rfl
  · match ops, h with | [_, _, _, _, _], _ => rfl
  · match ops, h with | [_], _ => rfl
  · match ops, h with | [_, _, _, _, _, _, _, _, _], _ => rfl
  · match ops, h with | [_, _, _, _, _, _, _, _], _ => rfl
  · match ops, h with | [_, _, _, _, _], _ => rfl
  · match ops, h with | [_, _, _, _, _, _, _, _], _ => rfl
  · match ops, h with | [_, _, _, _], _ => rfl
  · match ops, h with | [_, _], _ => rfl

/-- A control code that the control table leaves out has a command for every list of operands (R84, R302). -/
theorem controlCommand_of_unlisted {op : Byte} (hc : isControl op = true) (h : controlTable.lookup op = none)
    (ops : List Byte) : (controlCommand op.toNat ops).isSome := by
  have codes : ∀ b : Byte, isControl b = true → controlTable.lookup b = none →
      b ∈ ([1, 2, 3, 4, 5, 6, 8, 9, 11, 14, 15, 16, 20, 21, 26, 27, 30] : List Byte) := by decide +kernel
  have hop := codes op hc h
  simp only [List.mem_cons, List.not_mem_nil, or_false] at hop
  rcases hop with rfl | rfl | rfl | rfl | rfl | rfl | rfl | rfl | rfl | rfl | rfl | rfl | rfl | rfl | rfl | rfl | rfl <;>
    rfl

/-- As many operands as the opcode takes make a command: the decoder, which collects that many, never comes to a handler
that is missing (R82, R118). -/
theorem command_of_length {ext : CtrlExt} {op : Byte} {ops : List Byte} (h : ops.length = operandCount ext op) :
    ∃ i, command op ops = some i := by
  apply Option.isSome_iff_exists.mp
  unfold command
  cases hc : isControl op with
  | false =>
    rw [operandCount_glyph ext hc, List.length_eq_zero_iff] at h
    simp [h]
  | true =>
    rw [operandCount_control ext hc] at h
    cases hl : controlTable.lookup op with
    | none => simpa using controlCommand_of_unlisted hc hl ops
    | some n =>
      obtain ⟨before, after, htable, -⟩ := List.lookup_eq_some_iff.mp hl
      have listed : (op, n) ∈ controlTable := by simp [htable]
      simpa using controlCommand_of_listed listed (by simpa [controlCount, hl] using h)

/-! ### The invariant -/

/-- An update that a handler may make keeps the invariant: only a mapped MODE touches it, and builds the palette anew
(R146, R148). -/
theorem HandlerWrites.keeps_inv {i : Instr} {s u : State} (w : HandlerWrites i s u) (h : s.Inv) : u.Inv := by
  obtain ⟨hdecoder, hpalette, hmode⟩ := h
  cases w with
  | mode sh d _ mapped => exact ⟨hdecoder, paletteRam_valid _ _, mapped⟩
  | nothing | text | flags | history | origin | textColours | gfxColours | tints | cursorAppearance | gwin | twin =>
    exact ⟨hdecoder, hpalette, hmode⟩

/-- The outcome is a next state that meets the invariant. -/
def GoesOn (o : Result) : Prop := ∃ t, o = .next t ∧ t.Inv

theorem exec_goesOn (i : Instr) {s : State} (h : s.Inv) : GoesOn (exec i s) := by
  obtain ⟨u, out, results, tick, hu, w⟩ := exec_writes i s
  exact ⟨_, hu, w.keeps_inv h⟩

theorem runCommand_goesOn {op : Byte} {ops : List Byte} {s : State} (h : s.Inv)
    (hn : ops.length = operandCount s.params.ctrlExt op) : GoesOn (runCommand op ops s) := by
  obtain ⟨i, hi⟩ := command_of_length hn
  exact runCommand_of_command hi s ▸ exec_goesOn i h

/-- `stage <- OPCODE` keeps the invariant, and needs nothing of the decoder (R112, R125). -/
theorem State.Inv.toOpcode {s : State} (h : s.Inv) : s.toOpcode.Inv := by
  obtain ⟨-, hpalette, hmode⟩ := h
  exact ⟨.inl ⟨rfl, rfl, rfl⟩, hpalette, hmode⟩

/-- Latching an opcode that takes operands opens a command with none of them held (R114). -/
theorem latch_insideCommand {s : State} {b : Byte} {n : Nat} (h : operandCount s.params.ctrlExt b = n + 1) :
    (s.latch b (n + 1)).insideCommand := by
  have hle := operandCount_le_nine s.params.ctrlExt b
  have hreq : (s.latch b (n + 1)).req.toNat = n + 1 := by
    rw [State.latch_req, BitVec.toNat_ofNat, Nat.mod_eq_of_lt (by omega)]
  have hcontrol : isControl b = true := by
    by_contra hglyph
    rw [operandCount_glyph _ (by simpa using hglyph)] at h
    omega
  have hentry : controlCount s.params.ctrlExt b = some (n + 1) := by
    rw [operandCount_control _ hcontrol] at h
    cases hc : controlCount s.params.ctrlExt b with
    | none => simp [hc] at h
    | some m => simpa [hc] using h
  refine ⟨rfl, ?_, ?_, ?_, hcontrol, ?_⟩ <;> rw [hreq]
  · omega
  · omega
  · simp
  · exact hentry

/-- At a command boundary a byte runs its command, or opens one (R114, R119). -/
theorem feed_goesOn_opcode {s : State} (h : s.Inv) (hs : s.stage = .opcode) (b : Byte) : GoesOn (feed b s) := by
  rcases feed_opcode_cases b s hs with ⟨hn, hf⟩ | ⟨n, hn, hf⟩ <;> rw [hf]
  · exact runCommand_goesOn h hn.symm
  · obtain ⟨-, hpalette, hmode⟩ := h
    exact ⟨_, rfl, .inr (latch_insideCommand hn), hpalette, hmode⟩

/-- Inside a command a byte is stored, and the last one runs the command on as many operands as its opcode takes (R112). -/
theorem feed_goesOn_operand {s : State} (h : s.Inv) (hs : s.stage = .operand) (b : Byte) : GoesOn (feed b s) := by
  have ⟨hdecoder, hpalette, hmode⟩ := h
  rcases hdecoder with ⟨hstage, -⟩ | ⟨-, hpos, hnine, hcnt, hcontrol, hentry⟩
  · simp [hstage] at hs
  · rcases feed_operand_cases b s hs with ⟨hlast, hf⟩ | ⟨hmore, hf⟩ <;> rw [hf]
    · refine runCommand_goesOn (s := (s.storeOperand b).toOpcode) h.toOpcode ?_
      rw [State.toOpcode_params, State.storeOperand_params, operandCount_control _ hcontrol, hentry]
      simpa [State.heldOperands] using hnine
    · have hstored := storeOperand_cnt_toNat s b (by omega)
      have hless : (s.storeOperand b).cnt.toNat < s.req.toNat := by
        rw [BitVec.le_def] at hmore
        exact Nat.not_le.mp hmore
      exact ⟨_, rfl, .inr ⟨hs, hpos, hnine, hless, hcontrol, hentry⟩, hpalette, hmode⟩

theorem feed_goesOn {s : State} (h : s.Inv) (b : Byte) : GoesOn (feed b s) := by
  cases hs : s.stage with
  | opcode => exact feed_goesOn_opcode h hs b
  | operand => exact feed_goesOn_operand h hs b

theorem feedAll_goesOn {s : State} (h : s.Inv) (bytes : List Byte) : GoesOn (feedAll bytes s) := by
  induction bytes generalizing s with
  | nil => exact ⟨s, rfl, h⟩
  | cons b bytes ih =>
    obtain ⟨u, hu, hinv⟩ := feed_goesOn h b
    exact feedAll_cons b bytes s u hu ▸ ih hinv

/-- The invariant is kept by `enqueue`, which only sorts the results of what it fed (R124). -/
theorem enqueue_goesOn {s : State} (h : s.Inv) (bytes : List Byte) : GoesOn (enqueue bytes s) := by
  obtain ⟨u, hu, hinv⟩ := feedAll_goesOn (s := { s with results := [] }) h bytes
  exact ⟨{ u with results := s.results ++ withoutBuffered u.results }, by simp [enqueue, hu], hinv⟩

/-- Settles O15: the decoder is at a boundary, the palette is the one `build` gives, and the reset mode is mapped. -/
theorem resetMeetsTheInvariant : Obligations.ResetMeetsTheInvariant := fun p =>
  ⟨.inl ⟨rfl, rfl, rfl⟩, paletteRam_valid _ _, modeEntry_resetMode p⟩

/-- Every move of the host answers a next state that meets the invariant (R44). -/
theorem perform_goesOn {s : State} (h : s.Inv) (op : HostOp) : GoesOn (perform op s) := by
  cases op with
  | feed b => exact feed_goesOn h b
  | enqueue bytes => exact enqueue_goesOn h bytes
  | cancel => exact ⟨_, rfl, h.toOpcode⟩
  | reset => exact ⟨_, rfl, resetMeetsTheInvariant s.params⟩

/-- Settles O16: an idle step keeps the state, and any other one is a move of the host. -/
theorem stepKeepsTheInvariant : Obligations.StepKeepsTheInvariant := by
  intro s h
  cases hi : s.input with
  | nil => exact ⟨s, by simp [step, hi], h⟩
  | cons op rest =>
    rw [step_cons s op rest hi]
    exact perform_goesOn (s := { s with input := rest }) h op

/-- A run is its first step, then the rest. -/
theorem State.reaches_succ {s u t : State} {k : Nat} (hu : step s = .next u) (ht : State.reaches k u t) :
    State.reaches (k + 1) s t := by
  have first : Sys2Proof.core.step s = .next u := hu
  simpa [State.reaches, Host.Core.run, first] using ht

/-- From a state that meets the invariant, every number of steps reaches one that does. -/
theorem run_keeps_inv (k : Nat) {s : State} (h : s.Inv) : ∃ t, State.reaches k s t ∧ t.Inv := by
  induction k generalizing s with
  | zero => exact ⟨s, rfl, h⟩
  | succ k ih =>
    obtain ⟨u, hu, hinv⟩ := stepKeepsTheInvariant s h
    obtain ⟨t, ht, htinv⟩ := ih hinv
    exact ⟨t, State.reaches_succ hu ht, htinv⟩

/-- Settles O17: the invariant holds at reset whatever moves the host has outstanding, and every step keeps it. -/
theorem noInputStopsTheMachine : Obligations.NoInputStopsTheMachine := fun p moves k =>
  run_keeps_inv k (s := { State.resetWith p with input := moves }) (resetMeetsTheInvariant p)

end Sys2Proof.Machine
end

section
/-! PROOFS. `Present` in what a command and a `feed` emit (O19): once, last, and only after another request. -/

namespace Sys2Proof.Machine

/-! ### When `Present` is due -/

/-- After a request on `REN` or `TXT` one `Present` is due (R71). -/
theorem presentIfNeeded_of_request {ev : List Event} (h : ∃ e ∈ ev, e.isRequest = true) :
    presentIfNeeded ev = [.ren .present] :=
  if_pos (List.any_eq_true.mpr h)

/-- Without a request on `REN` or `TXT` no `Present` is due (R71). -/
theorem presentIfNeeded_of_no_request {ev : List Event} (h : ∀ e ∈ ev, e.isRequest = false) :
    presentIfNeeded ev = [] :=
  if_neg (by simpa using h)

/-- No handler emits `Present` itself: it raises a signal, or its requests are other ones (R71). -/
theorem HandlerEmission.ne_present {ev : List Event} (h : HandlerEmission ev) : ∀ e ∈ ev, e ≠ .ren .present := by
  rcases h with ⟨g, rfl⟩ | h
  · simp
  · exact fun e he => (h e he).2

/-! ### What a command and a `feed` have emitted -/

/-- The second state has, behind the emissions of the first, what one handler may emit and the `Present` that is due. -/
def HasEmitted (s t : State) : Prop := ∃ ev, HandlerEmission ev ∧ t.out = s.out ++ ev ++ presentIfNeeded ev

/-- Where no handler ran, nothing was emitted, and no `Present` is due. -/
theorem HasEmitted.of_kept {s t : State} (h : t.out = s.out) : HasEmitted s t :=
  ⟨[], .nil, by simp [presentIfNeeded_of_no_request, h]⟩

theorem exec_hasEmitted {i : Instr} {s t : State} (h : exec i s = .next t) : HasEmitted s t := by
  obtain ⟨u, ev, hu, hev, hout⟩ := exec_emits i s
  obtain rfl : u = t := by simpa [hu] using h
  exact ⟨ev, hev, hout⟩

theorem runCommand_hasEmitted {op : Byte} {ops : List Byte} {s t : State} (h : runCommand op ops s = .next t) :
    HasEmitted s t := by
  cases hc : command op ops with
  | none => simp [runCommand, hc] at h
  | some i => exact exec_hasEmitted (runCommand_of_command hc s ▸ h)

/-- A `feed` buffers its byte and emits nothing, or runs one command, from a state with the same emissions (R112, R114). -/
theorem feed_hasEmitted {b : Byte} {s t : State} (h : feed b s = .next t) : HasEmitted s t := by
  cases hs : s.stage with
  | opcode =>
    rcases feed_opcode_cases b s hs with ⟨-, hf⟩ | ⟨n, -, hf⟩
    · exact runCommand_hasEmitted (hf ▸ h)
    · obtain rfl : (s.latch b (n + 1)).buffering = t := by simpa [hf] using h
      exact .of_kept rfl
  | operand =>
    rcases feed_operand_cases b s hs with ⟨-, hf⟩ | ⟨-, hf⟩
    · have ran : HasEmitted (s.storeOperand b).toOpcode t := runCommand_hasEmitted (hf ▸ h)
      exact ran
    · obtain rfl : (s.storeOperand b).buffering = t := by simpa [hf] using h
      exact .of_kept rfl

/-- Settles O19: a command and a `feed` emit what one handler may emit, and behind it the `Present` that is due. -/
theorem presentIsLastAndOnlyAfterARequest : Obligations.PresentIsLastAndOnlyAfterARequest := by
  intro s t h
  have emitted : HasEmitted s t := by
    rcases h with ⟨i, h⟩ | ⟨b, h⟩
    · exact exec_hasEmitted h
    · exact feed_hasEmitted h
  obtain ⟨ev, hev, hout⟩ := emitted
  refine ⟨ev, hev.ne_present, fun request => ?_, fun silent => ?_⟩
  · rw [hout, presentIfNeeded_of_request request]
  · rw [hout, presentIfNeeded_of_no_request silent, List.append_nil]

end Sys2Proof.Machine
end

section
/-! PROOFS. The encoding: what the decoder answers (O3, O4), that it reads back what the encoder writes (O1), and that the
encoder writes back what the decoder reads (O2). -/

namespace Sys2Proof.Machine

/-! ### What the decoder answers -/

/-- A sequence that ends before the operands of its first command is refused (R80). -/
theorem decode_of_short {ext : CtrlExt} {op : Byte} {bytes : List Byte} (h : bytes.length < operandCount ext op) :
    decode ext (op :: bytes) = .error (.truncated op (operandCount ext op)) := by
  simp [decode, h]

/-- Behind an opcode and as many operand bytes as it takes, the decoder leaves everything (R80). -/
theorem decode_of_command {ext : CtrlExt} {op : Byte} {ops : List Byte} {i : Instr}
    (hlen : ops.length = operandCount ext op) (hc : command op ops = some i) (rest : List Byte) :
    decode ext (op :: (ops ++ rest)) = .ok (i, rest) := by
  simp [decode, ← hlen, hc]

/-- With as many bytes as the opcode takes behind it, the decoder reads a command (R80, R82). -/
theorem decode_of_enough {ext : CtrlExt} {op : Byte} {bytes : List Byte} (h : operandCount ext op ≤ bytes.length) :
    ∃ i, command op (bytes.take (operandCount ext op)) = some i ∧
      decode ext (op :: bytes) = .ok (i, bytes.drop (operandCount ext op)) := by
  have hlen : (bytes.take (operandCount ext op)).length = operandCount ext op := List.length_take_of_le h
  obtain ⟨i, hi⟩ := command_of_length hlen
  have read := decode_of_command hlen hi (bytes.drop (operandCount ext op))
  rw [List.take_append_drop] at read
  exact ⟨i, hi, read⟩

/-- What the decoder reads is the command of the first byte and of as many operand bytes as that byte takes (R80). -/
theorem decode_eq_ok {ext : CtrlExt} {bytes rest : List Byte} {i : Instr} (h : decode ext bytes = .ok (i, rest)) :
    ∃ op ops, bytes = op :: (ops ++ rest) ∧ ops.length = operandCount ext op ∧ command op ops = some i := by
  cases bytes with
  | nil => simp [decode] at h
  | cons op bytes =>
    rcases Nat.lt_or_ge bytes.length (operandCount ext op) with short | enough
    · simp [decode_of_short short] at h
    · obtain ⟨j, hj, read⟩ := decode_of_enough enough
      obtain ⟨rfl, rfl⟩ : j = i ∧ bytes.drop (operandCount ext op) = rest := by simpa [read] using h
      exact ⟨op, _, by rw [List.take_append_drop], List.length_take_of_le enough, hj⟩

/-! ### The rows that refine opcodes 23 and 25 (R99) -/

theorem vdu23Refined_of_reserved {sub : Byte} (h : isSubCode sub = false) (p1 p2 p3 p4 p5 p6 p7 p8 : Byte) :
    vdu23Refined sub p1 p2 p3 p4 p5 p6 p7 p8 = .vdu23Reserved sub p1 p2 p3 p4 p5 p6 p7 p8 := by
  simp only [isSubCode, Bool.or_eq_false_iff, beq_eq_false_iff_ne, ne_eq] at h
  obtain ⟨⟨⟨notCursor, notScroll⟩, notPrintdir⟩, notTint⟩ := h
  simp [vdu23Refined, notCursor, notScroll, notPrintdir, notTint]

/-- The primitive code of a PLOT code is one of the 32 multiples of 8 (R92). -/
theorem plotPrimitive_eq_mul : ∀ k : Byte, ∃ j : Fin 32, plotPrimitive k = BitVec.ofNat 8 (8 * j) := by decide +kernel

/-- A primitive code is its own (R92). -/
theorem plotPrimitive_idem : ∀ k : Byte, plotPrimitive (plotPrimitive k) = plotPrimitive k := by decide +kernel

/-- The PLOT code of a primitive code and its fields selects that primitive's form, with those fields (R92). -/
theorem plotRefined_plotCode {p : Byte} (hp : plotPrimitive p = p) (absolute : Bool) (e : PlotEffect) (x y : S16) :
    plotRefined (plotCode p absolute e) x y = plotForm p absolute e x y := by
  obtain ⟨hprimitive, habsolute, heffect⟩ := plotFields_code p absolute e
  rw [hp] at hprimitive habsolute heffect
  rw [plotRefined, hprimitive, habsolute, heffect]

/-! ### The command that reads an encoding -/

theorem glyphCommand_of_isPrintable {op : Byte} (h : isPrintable op = true) : glyphCommand op = .char op := by
  have hd : op ≠ 127 := by rintro rfl; exact absurd h (by decide)
  have hu : isUdg op = false := by
    simp only [isPrintable, isUdg, decide_eq_true_eq, decide_eq_false_iff_not] at *
    omega
  rw [glyphCommand, if_neg hd, if_neg (by simp [hu])]

theorem glyphCommand_of_isUdg {op : Byte} (h : isUdg op = true) : glyphCommand op = .udg op := by
  have hd : op ≠ 127 := by rintro rfl; exact absurd h (by decide)
  rw [glyphCommand, if_neg hd, if_pos h]

/-- An opcode above 31 is a command by itself (R82). -/
theorem command_of_glyph {op : Byte} (h : isControl op = false) : command op [] = some (glyphCommand op) := by
  simp [command, h]

theorem command_colour (c : Byte) : command 17#8 [c] = some (.colour (topBit c) (lowSeven c)) := rfl

theorem command_gcol (a c : Byte) : command 18#8 [a, c] = some (.gcol a (topBit c) (lowSeven c)) := rfl

theorem command_mode (n : Byte) : command 22#8 [n] = some (.mode (topBit n) (lowSeven n)) := rfl

theorem command_vdu23 (sub p1 p2 p3 p4 p5 p6 p7 p8 : Byte) :
    command 23#8 [sub, p1, p2, p3, p4, p5, p6, p7, p8] = some (vdu23Refined sub p1 p2 p3 p4 p5 p6 p7 p8) := rfl

theorem command_gwindow (l0 l1 b0 b1 r0 r1 t0 t1 : Byte) :
    command 24#8 [l0, l1, b0, b1, r0, r1, t0, t1] =
      some (.gwindow (le16 l0 l1) (le16 b0 b1) (le16 r0 r1) (le16 t0 t1)) := rfl

theorem command_plot (k x0 x1 y0 y1 : Byte) :
    command 25#8 [k, x0, x1, y0, y1] = some (plotRefined k (le16 x0 x1) (le16 y0 y1)) := rfl

theorem command_twindow (l0 l1 b0 b1 r0 r1 t0 t1 : Byte) :
    command 28#8 [l0, l1, b0, b1, r0, r1, t0, t1] =
      some (.twindow (le16 l0 l1) (le16 b0 b1) (le16 r0 r1) (le16 t0 t1)) := rfl

theorem command_origin (x0 x1 y0 y1 : Byte) :
    command 29#8 [x0, x1, y0, y1] = some (.origin (le16 x0 x1) (le16 y0 y1)) := rfl

/-- The encoding of a whole PLOT is read as the row that refines it (R92, R99). -/
theorem command_plotBytes (k : Byte) (x y : S16) : command 25#8 (plotBytes k x y) = some (plotRefined k x y) := by
  simp [plotBytes, command_plot]

/-- The encoding of a PLOT row is read as that row (R92, R240). -/
theorem command_plotForm {p : Byte} (hp : plotPrimitive p = p) (absolute : Bool) (e : PlotEffect) (x y : S16) :
    command 25#8 (plotBytes (plotCode p absolute e) x y) = some (plotForm p absolute e x y) := by
  rw [command_plotBytes, plotRefined_plotCode hp]

/-- The operand bytes of a well-formed command are as many as its opcode takes (R80). -/
theorem operands_length_of_wellFormed {ext : CtrlExt} {i : Instr} (h : i.wellFormed ext = true) :
    i.operands.length = operandCount ext i.opcode := by
  cases i with
  | char => exact (operandCount_glyph ext (isControl_of_isPrintable h)).symm
  | udg => exact (operandCount_glyph ext (isControl_of_isUdg h)).symm
  | undef01 | undef02 | undef03 | undef04 | undef05 | undef06 | undef08 | undef09 | undef11 | undef14 | undef15
  | undef16 | undef20 | undef21 | undef26 | undef27 | undef30 => exact eq_of_beq h
  | _ => rfl

/-- The opcode and the operand bytes of a well-formed command are read as the row that refines it (R83 to R95, R99). -/
theorem command_operands {ext : CtrlExt} {i : Instr} (h : i.wellFormed ext = true) :
    command i.opcode i.operands = some i.refined := by
  cases i with
  | char code =>
    exact (command_of_glyph (isControl_of_isPrintable h)).trans (congrArg some (glyphCommand_of_isPrintable h))
  | udg code => exact (command_of_glyph (isControl_of_isUdg h)).trans (congrArg some (glyphCommand_of_isUdg h))
  | colour => simp [Instr.opcode, Instr.operands, Instr.refined, command_colour]
  | gcol => simp [Instr.opcode, Instr.operands, Instr.refined, command_gcol]
  | mode => simp [Instr.opcode, Instr.operands, Instr.refined, command_mode]
  | gwindow => simp [Instr.opcode, Instr.operands, Instr.refined, windowBytes, command_gwindow]
  | twindow => simp [Instr.opcode, Instr.operands, Instr.refined, windowBytes, command_twindow]
  | origin => simp [Instr.opcode, Instr.operands, Instr.refined, command_origin]
  | plot => exact command_plotBytes ..
  | vdu23Reserved sub =>
    have hsub : isSubCode sub = false := by simpa [Instr.wellFormed] using h
    exact (command_vdu23 ..).trans (congrArg some (vdu23Refined_of_reserved hsub ..))
  | plot00 | plot08 | plot10 | plot18 | plot20 | plot28 | plot30 | plot38 | plot40 | plot48 | plot50 | plot58 | plot60
  | plot68 | plot70 | plot78 | plot80 | plot88 | plot90 | plot98 | plotA0 | plotA8 | plotB0 | plotB8 | plotC0 | plotC8
  | plotD0 | plotD8 | plotE0 | plotE8 | plotF0 | plotF8 => exact command_plotForm (by decide) ..
  | _ => rfl

/-- Only a whole VDU23 and a whole PLOT have a row that refines them (R99). -/
theorem refined_eq_self {i : Instr} (hv : ∀ sub p1 p2 p3 p4 p5 p6 p7 p8, i ≠ .vdu23 sub p1 p2 p3 p4 p5 p6 p7 p8)
    (hp : ∀ k x y, i ≠ .plot k x y) : i.refined = i := by
  cases i with
  | vdu23 => exact (hv _ _ _ _ _ _ _ _ _ rfl).elim
  | plot => exact (hp _ _ _ rfl).elim
  | _ => rfl

/-- Settles O1: the decoder takes as many bytes as the encoder wrote, and reads from them the refined command. -/
theorem decodeEncodeGivesInstructionBack : Obligations.DecodeEncodeGivesInstructionBack := fun _ _ rest h =>
  ⟨decode_of_command (operands_length_of_wellFormed h) (command_operands h) rest, refined_eq_self⟩

/-! ### The encoding of the command that was read -/

/-- The command stands for this opcode and these operand bytes: it is encoded by them, it is its own row of the opcode
table, and it is well-formed wherever the opcode takes as many operands. -/
structure StandsFor (i : Instr) (op : Byte) (ops : List Byte) : Prop where
  opcode : i.opcode = op
  operands : i.operands = ops
  refined : i.refined = i
  wellFormed : ∀ ext : CtrlExt, ops.length = operandCount ext op → i.wellFormed ext = true

theorem vdu23Refined_standsFor (sub p1 p2 p3 p4 p5 p6 p7 p8 : Byte) :
    StandsFor (vdu23Refined sub p1 p2 p3 p4 p5 p6 p7 p8) 23 [sub, p1, p2, p3, p4, p5, p6, p7, p8] := by
  by_cases h : isSubCode sub = true
  · obtain ((rfl | rfl) | rfl) | rfl : ((sub = subCursor ∨ sub = subScroll) ∨ sub = subPrintdir) ∨ sub = subTint := by
      simpa [isSubCode] using h
    all_goals exact ⟨rfl, rfl, rfl, fun _ _ => rfl⟩
  · have hsub : isSubCode sub = false := by simpa using h
    rw [vdu23Refined_of_reserved hsub]
    exact ⟨rfl, rfl, rfl, fun _ _ => by simp [Instr.wellFormed, hsub]⟩

theorem plotForm_standsFor {p : Byte} (hp : plotPrimitive p = p) (absolute : Bool) (e : PlotEffect) (x y : S16) :
    StandsFor (plotForm p absolute e x y) 25 (plotBytes (plotCode p absolute e) x y) := by
  obtain ⟨j, hj⟩ := plotPrimitive_eq_mul p
  rw [← hp, hj]
  fin_cases j <;> exact ⟨rfl, rfl, rfl, fun _ _ => rfl⟩

theorem plotRefined_standsFor (k : Byte) (x y : S16) : StandsFor (plotRefined k x y) 25 (plotBytes k x y) := by
  have h := plotForm_standsFor (plotPrimitive_idem k) (plotAbsolute k) (plotEffect k) x y
  rwa [plotCode_fields] at h

theorem glyphCommand_standsFor {op : Byte} (hc : isControl op = false) : StandsFor (glyphCommand op) op [] := by
  by_cases hd : op = 127
  · subst hd
    exact ⟨rfl, rfl, rfl, fun _ _ => rfl⟩
  · cases hu : isUdg op with
    | true =>
      rw [glyphCommand_of_isUdg hu]
      exact ⟨rfl, rfl, rfl, fun _ _ => hu⟩
    | false =>
      have hprint := isPrintable_of_rest hc hd hu
      rw [glyphCommand_of_isPrintable hprint]
      exact ⟨rfl, rfl, rfl, fun _ _ => hprint⟩

/-- Whatever a control code and its operand bytes are read as stands for them (R83, R84, R86 to R95). -/
theorem controlCommand_standsFor {n : Nat} {ops : List Byte} {i : Instr} (h : controlCommand n ops = some i) :
    StandsFor i (BitVec.ofNat 8 n) ops := by
  unfold controlCommand at h
  split at h <;> cases h
  -- NUL, BEL, LF, CLS, CR
  iterate 5 · exact ⟨rfl, rfl, rfl, fun _ _ => rfl⟩
  -- COLOUR, GCOL, PALETTE, MODE
  iterate 4 · exact ⟨rfl, by simp [Instr.operands], rfl, fun _ _ => rfl⟩
  · exact vdu23Refined_standsFor ..
  -- GWINDOW
  · exact ⟨rfl, by simp [Instr.operands, windowBytes], rfl, fun _ _ => rfl⟩
  · simpa [plotBytes] using plotRefined_standsFor _ (le16 _ _) (le16 _ _)
  -- TWINDOW, ORIGIN, TAB
  iterate 3 · exact ⟨rfl, by simp [Instr.operands, windowBytes], rfl, fun _ _ => rfl⟩
  -- UNDEF01 to UNDEF30
  iterate 17 · exact ⟨rfl, rfl, rfl, fun _ => beq_of_eq⟩

/-- Whatever an opcode and its operand bytes are read as stands for them (R80, R82). -/
theorem command_standsFor {op : Byte} {ops : List Byte} {i : Instr} (h : command op ops = some i) :
    StandsFor i op ops := by
  cases hc : isControl op with
  | true =>
    have hcontrol : controlCommand op.toNat ops = some i := by simpa [command, hc] using h
    simpa using controlCommand_standsFor hcontrol
  | false =>
    cases ops with
    | nil =>
      obtain rfl : glyphCommand op = i := by simpa [command_of_glyph hc] using h
      exact glyphCommand_standsFor hc
    | cons => simp [command, hc] at h

/-- Settles O2: the bytes that were read are an opcode, its operands and the rest, and the command stands for the first
two. -/
theorem encodeDecodeGivesBytesBack : Obligations.EncodeDecodeGivesBytesBack := by
  intro ext bytes rest i h
  obtain ⟨op, ops, rfl, hlen, hc⟩ := decode_eq_ok h
  have read := command_standsFor hc
  exact ⟨by rw [encode, read.opcode, read.operands, List.cons_append], read.wellFormed ext hlen, read.refined⟩

/-! ### Truncation, and the words of the tables -/

/-- Settles O3: as many bytes as the opcode takes make a command, and with fewer the sequence is cut short. -/
theorem decoderRefusesOnlyTruncation : Obligations.DecoderRefusesOnlyTruncation := by
  intro ext op bytes
  refine ⟨fun enough => ?_, decode_of_short⟩
  obtain ⟨i, hi, read⟩ := decode_of_enough enough
  exact ⟨i, read, (command_standsFor hi).opcode⟩

/-- Settles O4: the model's decoder, run on the twelve words. -/
theorem specWordsDecode : Obligations.SpecWordsDecode :=
  ⟨rfl, rfl, rfl, rfl, rfl, rfl, rfl, rfl, rfl, rfl, rfl, rfl⟩

end Sys2Proof.Machine
end

section
/-! PROOFS. The decoder and the record of results: nothing in `feed` reads the results recorded before it, so that feeding
and enqueueing sequences compose (O10). -/

namespace Sys2Proof.Machine

/-! ### One outcome after another -/

@[simp] theorem andThen_next (t : State) (k : State → Result) : Spec.andThen (.next t) k = k t := rfl

theorem andThen_assoc (o : Result) (k l : State → Result) :
    Spec.andThen (Spec.andThen o k) l = Spec.andThen o fun t => Spec.andThen (k t) l := by
  cases o <;> rfl

theorem feedAll_cons_eq (b : Byte) (bytes : List Byte) (s : State) :
    feedAll (b :: bytes) s = Spec.andThen (feed b s) (feedAll bytes) := by
  rw [feedAll]
  cases feed b s <;> rfl

/-- Feeding one byte is a `feed` (R124). -/
theorem feedAll_singleton (b : Byte) (s : State) : feedAll [b] s = feed b s := by
  rw [feedAll_cons_eq]
  cases feed b s <;> rfl

/-- Feeding two sequences joined is feeding the first, and then the second (R124). -/
theorem feedAll_append (a bytes : List Byte) (s : State) :
    feedAll (a ++ bytes) s = Spec.andThen (feedAll a s) (feedAll bytes) := by
  induction a generalizing s with
  | nil => rfl
  | cons b a ih =>
    rw [List.cons_append, feedAll_cons_eq, feedAll_cons_eq, andThen_assoc]
    exact congrArg _ (funext ih)

/-! ### What `feed` does, under the condition for each branch -/

/-- At stage `OPCODE`, an opcode without operands runs its command (R114, R115). -/
theorem feed_of_no_operands {s : State} {b : Byte} (hs : s.stage = .opcode)
    (hn : operandCount s.params.ctrlExt b = 0) : feed b s = runCommand b [] s := by
  simp [feed, hs, dispatchOpcode, hn]

/-- At stage `OPCODE`, an opcode with operands is latched (R114). -/
theorem feed_of_operands {s : State} {b : Byte} {n : Nat} (hs : s.stage = .opcode)
    (hn : operandCount s.params.ctrlExt b = n + 1) : feed b s = .next (s.latch b (n + 1)).buffering := by
  simp [feed, hs, dispatchOpcode, hn]

/-- The last operand byte runs the command (R112). -/
theorem feed_of_last {s : State} {b : Byte} (hs : s.stage = .operand) (hlast : s.req ≤ s.cnt + 1) :
    feed b s = runCommand s.curOp ((s.storeOperand b).heldOperands s.req.toNat) (s.storeOperand b).toOpcode :=
  (feed_operand_cases b s hs).elim And.right fun h => absurd hlast h.1

/-- An operand byte before the last one is stored (R112). -/
theorem feed_of_more {s : State} {b : Byte} (hs : s.stage = .operand) (hmore : ¬ s.req ≤ s.cnt + 1) :
    feed b s = .next (s.storeOperand b).buffering :=
  (feed_operand_cases b s hs).elim (fun h => absurd h.1 hmore) And.right

/-! ### The results recorded earlier are kept, and not read -/

/-- The state whose record begins with these results, and goes on with its own. -/
def State.recordedAfter (R : List FeedResult) (s : State) : State := { s with results := R ++ s.results }

@[simp] theorem State.recordedAfter_params (R : List FeedResult) (s : State) :
    (s.recordedAfter R).params = s.params := rfl

/-- The state with an empty record of results: the one in which `enqueue` feeds its bytes. -/
def State.unrecorded (s : State) : State := { s with results := [] }

theorem unrecorded_recordedAfter (s : State) : s.unrecorded.recordedAfter s.results = s := by
  simp [State.recordedAfter, State.unrecorded]

/-- The operation neither reads nor drops results recorded earlier: with some in front of the record it does the same, and
they stay in front. -/
def KeepsEarlierResults (f : State → Result) : Prop :=
  ∀ (R : List FeedResult) (s : State),
    f (s.recordedAfter R) = Spec.andThen (f s) fun t => .next (t.recordedAfter R)

/-- The handler neither reads nor writes the results. -/
def HandlerKeepsResults (h : State → Reply) : Prop :=
  ∀ (R : List FeedResult) (s : State),
    h (s.recordedAfter R) = { h s with state := (h s).state.recordedAfter R }

theorem finish_keepsEarlierResults {i : Instr} {h : State → Reply} (hk : HandlerKeepsResults h) :
    KeepsEarlierResults fun s => finish i (h s) := fun R s => by
  simp only [hk R s, finish_eq, andThen_next]
  simp [finished, State.recordedAfter]

theorem modeReply_keepsResults (sh : Bool) (n : ModeNumber) : HandlerKeepsResults (modeReply sh n) := fun R s => by
  rw [modeReply, modeReply, State.recordedAfter_params]
  cases lookupMode s.params n <;> rfl

theorem tintReply_keepsResults (n v : Byte) : HandlerKeepsResults (tintReply n v) := fun R s => by
  unfold tintReply
  split <;> rfl

theorem vdu23Reply_keepsResults (sub p1 p2 p3 : Byte) : HandlerKeepsResults (vdu23Reply sub p1 p2 p3) := fun R s => by
  unfold vdu23Reply
  split
  · rfl
  · split
    · rfl
    · split
      · rfl
      · split
        · exact tintReply_keepsResults p1 p2 R s
        · rfl

theorem drawReply_keepsResults (code : Byte) (e : DrawEffect) : HandlerKeepsResults (drawReply code e) := fun R s => by
  unfold drawReply
  cases primitiveTable code <;> rfl

theorem plotReply_keepsResults (code : Byte) (absolute : Bool) (e : PlotEffect) (x y : S16) :
    HandlerKeepsResults (plotReply code absolute e x y) := fun R s => by
  cases e with
  | move => rfl
  | foreground => exact drawReply_keepsResults code .foreground R (s.recordPlot (newPoint absolute x y s.gcCur))
  | inverse => exact drawReply_keepsResults code .inverse R (s.recordPlot (newPoint absolute x y s.gcCur))
  | background => exact drawReply_keepsResults code .background R (s.recordPlot (newPoint absolute x y s.gcCur))

theorem unlistedControl_keepsEarlierResults (op : Byte) (i : Instr) : KeepsEarlierResults (unlistedControl op i) :=
  fun R s => by
    rw [unlistedControl, unlistedControl, State.recordedAfter_params]
    cases controlCount s.params.ctrlExt op with
    | none => simp [rejected, State.recordedAfter]
    | some n =>
      exact finish_keepsEarlierResults (h := fun s => raise s (.unsupportedOperation op none) .unsupported)
        (fun _ _ => rfl) R s

/-- No command reads or drops the results recorded before it (R45, R118). -/
theorem exec_keepsEarlierResults (i : Instr) : KeepsEarlierResults (exec i) := by
  cases i with
  | nul | bel | lf | cls | cr | colour | gcol | palette | gwindow | twindow | origin | tab | char | del | udg
  | vdu23Cursor | vdu23Scroll | vdu23Printdir | vdu23Reserved => exact finish_keepsEarlierResults fun _ _ => rfl
  | mode sh n => exact finish_keepsEarlierResults (modeReply_keepsResults sh n)
  | vdu23 sub p1 p2 p3 => exact finish_keepsEarlierResults (vdu23Reply_keepsResults sub p1 p2 p3)
  | vdu23Tint n v => exact finish_keepsEarlierResults (tintReply_keepsResults n v)
  | undef01 | undef02 | undef03 | undef04 | undef05 | undef06 | undef08 | undef09 | undef11 | undef14 | undef15 | undef16
  | undef20 | undef21 | undef26 | undef27 | undef30 => exact unlistedControl_keepsEarlierResults _ _
  | plot | plot00 | plot08 | plot10 | plot18 | plot20 | plot28 | plot30 | plot38 | plot40 | plot48 | plot50 | plot58
  | plot60 | plot68 | plot70 | plot78 | plot80 | plot88 | plot90 | plot98 | plotA0 | plotA8 | plotB0 | plotB8 | plotC0
  | plotC8 | plotD0 | plotD8 | plotE0 | plotE8 | plotF0 | plotF8 =>
    exact finish_keepsEarlierResults (plotReply_keepsResults _ _ _ _ _)

theorem runCommand_keepsEarlierResults (op : Byte) (ops : List Byte) : KeepsEarlierResults (runCommand op ops) :=
  fun R s => by
    cases hc : command op ops with
    | none => simp [runCommand, hc, Spec.andThen]
    | some i =>
      rw [runCommand_of_command hc, runCommand_of_command hc]
      exact exec_keepsEarlierResults i R s

theorem buffering_recordedAfter (R : List FeedResult) (s : State) :
    (s.recordedAfter R).buffering = s.buffering.recordedAfter R := by
  simp [State.buffering, State.recordedAfter]

/-- No `feed` reads or drops the results recorded before it (R113). -/
theorem feed_keepsEarlierResults (b : Byte) : KeepsEarlierResults (feed b) := fun R s => by
  cases hs : s.stage with
  | opcode =>
    cases hn : operandCount s.params.ctrlExt b with
    | zero =>
      rw [feed_of_no_operands hs hn, feed_of_no_operands (s := s.recordedAfter R) hs hn]
      exact runCommand_keepsEarlierResults b [] R s
    | succ n =>
      rw [feed_of_operands hs hn, feed_of_operands (s := s.recordedAfter R) hs hn]
      exact congrArg _ (buffering_recordedAfter R (s.latch b (n + 1)))
  | operand =>
    by_cases hlast : s.req ≤ s.cnt + 1
    · rw [feed_of_last hs hlast, feed_of_last (s := s.recordedAfter R) hs hlast]
      exact runCommand_keepsEarlierResults _ _ R (s.storeOperand b).toOpcode
    · rw [feed_of_more hs hlast, feed_of_more (s := s.recordedAfter R) hs hlast]
      exact congrArg _ (buffering_recordedAfter R (s.storeOperand b))

theorem feedAll_keepsEarlierResults (bytes : List Byte) : KeepsEarlierResults (feedAll bytes) := fun R s => by
  induction bytes generalizing s with
  | nil => rfl
  | cons b bytes ih =>
    rw [feedAll_cons_eq, feedAll_cons_eq, feed_keepsEarlierResults b R s, andThen_assoc, andThen_assoc]
    exact congrArg _ (funext ih)

/-! ### `enqueue` -/

/-- An `enqueue` feeds its bytes with an empty record, and puts what it hands back behind the earlier results (R124). -/
theorem enqueue_eq (bytes : List Byte) (s : State) :
    enqueue bytes s = Spec.andThen (feedAll bytes s.unrecorded) fun t =>
      .next { t with results := s.results ++ withoutBuffered t.results } := by
  rw [enqueue, State.unrecorded]
  cases feedAll bytes { s with results := [] } <;> rfl

/-- Settles O10: the bytes of the second sequence are fed behind the results of the first, which they do not read; and what
is handed back of both is what is handed back of each. -/
theorem enqueueOfAppendIsTwoEnqueues : Obligations.EnqueueOfAppendIsTwoEnqueues := by
  intro s a b
  simp only [enqueue_eq, feedAll_append, andThen_assoc]
  refine congrArg _ (funext fun t => ?_)
  have behind : feedAll b t = Spec.andThen (feedAll b t.unrecorded) fun u => .next (u.recordedAfter t.results) := by
    rw [← feedAll_keepsEarlierResults, unrecorded_recordedAfter]
  rw [behind, andThen_assoc]
  refine congrArg _ (funext fun u => ?_)
  simp [State.recordedAfter, withoutBuffered]

end Sys2Proof.Machine
end

section
/-! PROOFS. Collecting one command: its operand bytes are buffered, the last one runs it, and a partial one can be dropped
(O5 to O8, O11, O12, O57). -/

namespace Sys2Proof.Machine

/-! ### A partial command -/

/-- The state inside a command that began at `s`, its opcode and these operand bytes fed (R112, R114). -/
def State.collecting (s : State) (op : Byte) (n : Nat) (ops : List Byte) : State :=
  { s with
    stage := .operand, req := BitVec.ofNat 4 n, curOp := op, cnt := BitVec.ofNat 4 ops.length
    opbuf := Spec.fill s.opbuf 0 ops
    results := s.results ++ List.replicate (ops.length + 1) .buffered }

theorem latch_buffering (s : State) (op : Byte) (n : Nat) : (s.latch op n).buffering = s.collecting op n [] := rfl

theorem collecting_req_toNat {n : Nat} (hn : n ≤ 9) (s : State) (op : Byte) (ops : List Byte) :
    (s.collecting op n ops).req.toNat = n := by
  simp only [State.collecting, BitVec.toNat_ofNat]
  omega

theorem collecting_cnt_toNat {ops : List Byte} (h : ops.length ≤ 9) (s : State) (op : Byte) (n : Nat) :
    (s.collecting op n ops).cnt.toNat = ops.length := by
  simp only [State.collecting, BitVec.toNat_ofNat]
  omega

theorem fill_append (v : Vector Byte 9) (k : Nat) (a ops : List Byte) :
    Spec.fill v k (a ++ ops) = Spec.fill (Spec.fill v k a) (k + a.length) ops := by
  induction a generalizing v k with
  | nil => rfl
  | cons b a ih =>
    rw [List.cons_append, Spec.fill, Spec.fill, ih, List.length_cons, Nat.add_right_comm, Nat.add_assoc]

/-- The operand bytes, written one after another from index 0 on, are the ones filled in with one byte more (R64). -/
theorem collecting_storeOperand_opbuf {ops : List Byte} (h : ops.length < 9) (s : State) (op b : Byte) (n : Nat) :
    ((s.collecting op n ops).storeOperand b).opbuf = Spec.fill s.opbuf 0 (ops ++ [b]) := by
  rw [State.storeOperand_opbuf, collecting_cnt_toNat (by omega), fill_append, Nat.zero_add]
  rfl

/-- Storing one more operand byte and buffering on collects that byte too (R112). -/
theorem collecting_concat {ops : List Byte} (h : ops.length < 9) (s : State) (op b : Byte) (n : Nat) :
    ((s.collecting op n ops).storeOperand b).buffering = s.collecting op n (ops ++ [b]) := by
  have hopbuf := collecting_storeOperand_opbuf h s op b n
  have hcnt : BitVec.ofNat 4 ops.length + 1#4 = BitVec.ofNat 4 (ops.length + 1) := (BitVec.ofNat_add ..).symm
  unfold State.buffering
  rw [hopbuf]
  simp [State.collecting, hcnt, List.replicate_succ']

/-- The bytes held are those fed, in arrival order (R24, R64). -/
theorem heldOperands_collecting {ops : List Byte} (h : ops.length ≤ 9) (s : State) (op : Byte) (n : Nat) :
    (s.collecting op n ops).heldOperands ops.length = ops := by
  induction ops using List.reverseRecOn with
  | nil => simp [State.heldOperands]
  | append_singleton ops b ih =>
    rw [List.length_append, List.length_singleton] at h ⊢
    have hcnt := collecting_cnt_toNat (ops := ops) (by omega) s op n
    have held := heldOperands_storeOperand (s.collecting op n ops) b (by omega)
    rw [hcnt, ih (by omega)] at held
    rw [← collecting_concat (by omega)]
    exact held

/-- The next operand byte is the last one exactly if it is the `n`-th (R112). -/
theorem collecting_isLast_iff {n : Nat} {ops : List Byte} (hn : n ≤ 9) (h : ops.length < 9) (s : State) (op : Byte) :
    (s.collecting op n ops).req ≤ (s.collecting op n ops).cnt + 1 ↔ n ≤ ops.length + 1 := by
  have hcnt := collecting_cnt_toNat (ops := ops) (by omega) s op n
  have stored := storeOperand_cnt_toNat (s.collecting op n ops) 0 (by omega)
  rw [State.storeOperand_cnt, hcnt] at stored
  rw [BitVec.le_def, collecting_req_toNat hn, stored]

/-- Fewer operand bytes than the opcode takes are only collected (R112, R116). -/
theorem feedAll_of_fewer {s : State} {op : Byte} {ops : List Byte} (hs : s.stage = .opcode)
    (h : ops.length < operandCount s.params.ctrlExt op) :
    feedAll (op :: ops) s = .next (s.collecting op (operandCount s.params.ctrlExt op) ops) := by
  have hnine := operandCount_le_nine s.params.ctrlExt op
  generalize hn : operandCount s.params.ctrlExt op = n at *
  induction ops using List.reverseRecOn with
  | nil =>
    obtain ⟨m, rfl⟩ : ∃ m, n = m + 1 := Nat.exists_eq_succ_of_ne_zero (Nat.ne_of_gt h)
    rw [feedAll_singleton, feed_of_operands hs hn, latch_buffering]
  | append_singleton ops b ih =>
    rw [List.length_append, List.length_singleton] at h
    have more := (collecting_isLast_iff (n := n) (ops := ops) hnine (by omega) s op).not.mpr (by omega)
    rw [← List.cons_append, feedAll_append, ih (by omega), andThen_next, feedAll_singleton, feed_of_more rfl more,
      collecting_concat (by omega)]

/-! ### A whole command -/

theorem toOpcode_of_atBoundary {s : State} (h : s.atBoundary) : s.toOpcode = s := by
  obtain ⟨hstage, hreq, hcnt⟩ := h
  simp [State.toOpcode, ← hstage, ← hreq, ← hcnt]

/-- Behind the last operand byte the decoder is back at the boundary the command began at (R112). -/
theorem collecting_storeOperand_toOpcode {s : State} {ops : List Byte} (hs : s.atBoundary) (h : ops.length < 9)
    (op b : Byte) (n : Nat) :
    ((s.collecting op n ops).storeOperand b).toOpcode = { s with
      curOp := op, opbuf := Spec.fill s.opbuf 0 (ops ++ [b])
      results := s.results ++ List.replicate (ops.length + 1) .buffered } := by
  rw [← collecting_storeOperand_opbuf h s op b n]
  conv_rhs => rw [← toOpcode_of_atBoundary hs]
  rfl

/-- The last operand byte runs the opcode's handler on all of them, back at stage `OPCODE` (R112, R116). -/
theorem feedAll_of_last {s : State} {op b : Byte} {ops : List Byte} (hs : s.atBoundary)
    (hn : operandCount s.params.ctrlExt op = ops.length + 1) :
    feedAll (op :: (ops ++ [b])) s = runCommand op (ops ++ [b]) { s with
      curOp := op, opbuf := Spec.fill s.opbuf 0 (ops ++ [b])
      results := s.results ++ List.replicate (ops.length + 1) .buffered } := by
  have hnine := operandCount_le_nine s.params.ctrlExt op
  have fewer := feedAll_of_fewer (op := op) (ops := ops) hs.1 (by omega)
  rw [hn] at fewer hnine
  have last := (collecting_isLast_iff (ops := ops) hnine (by omega) s op).mpr (Nat.le_refl _)
  have held : ((s.collecting op (ops.length + 1) ops).storeOperand b).heldOperands (ops.length + 1) = ops ++ [b] := by
    have h := heldOperands_collecting (ops := ops ++ [b]) (by simpa using hnine) s op (ops.length + 1)
    rwa [← collecting_concat (by omega), List.length_append] at h
  rw [← List.cons_append, feedAll_append, fewer, andThen_next, feedAll_singleton, feed_of_last rfl last,
    collecting_req_toNat hnine, held, collecting_storeOperand_toOpcode hs (by omega)]
  rfl

/-- Feeding a whole command from a boundary is `exec` of it, behind one `Buffered` result for each byte but the last
(R112, R114, R118). -/
theorem feedAll_of_command {s : State} {op : Byte} {ops : List Byte} {i : Instr} (hs : s.atBoundary)
    (hlen : ops.length = operandCount s.params.ctrlExt op) (hc : command op ops = some i) :
    feedAll (op :: ops) s =
      exec i { Spec.collected i s with results := s.results ++ List.replicate ops.length .buffered } := by
  have read := command_standsFor hc
  rcases List.eq_nil_or_concat' ops with rfl | ⟨init, b, rfl⟩
  · rw [feedAll_singleton, feed_of_no_operands hs.1 hlen.symm, runCommand_of_command hc]
    simp [Spec.collected, read.operands]
  · rw [List.length_append, List.length_singleton] at hlen ⊢
    rw [feedAll_of_last hs hlen.symm, runCommand_of_command hc]
    simp [Spec.collected, read.opcode, read.operands]

/-! ### What a command returns -/

/-- A command appends one result (R113): it has completed, or its one byte has no table entry and was discarded. -/
theorem exec_result {i : Instr} {s t : State} (h : exec i s = .next t) :
    ∃ r, t.results = s.results ++ [r] ∧
      ((∃ o, r = completedResult i o) ∨
        (r = .rejected i.opcode ∧ controlCount s.params.ctrlExt i.opcode = none)) := by
  rcases exec_cases i s with ⟨reply, hr, same⟩ | ⟨hr, unlisted⟩
  · obtain rfl : finished i reply = t := by simpa [hr] using h
    exact ⟨_, by rw [finished_results, same.results], .inl ⟨_, rfl⟩⟩
  · obtain rfl : rejected i.opcode s = t := by simpa [hr] using h
    exact ⟨_, rfl, .inr ⟨rfl, unlisted⟩⟩

/-- The result that a command appends is not `Buffered` (R113). -/
theorem exec_result_ne_buffered {i : Instr} {s t : State} (h : exec i s = .next t) :
    ∃ r, t.results = s.results ++ [r] ∧ r ≠ .buffered := by
  obtain ⟨r, hr, ⟨o, rfl⟩ | ⟨rfl, -⟩⟩ := exec_result h
  · exact ⟨_, hr, by simp [completedResult]⟩
  · exact ⟨_, hr, by simp⟩

/-- A command never stops. -/
theorem exec_next (i : Instr) (s : State) : ∃ t, exec i s = .next t := by
  rcases exec_cases i s with ⟨r, hr, -⟩ | ⟨hr, -⟩ <;> exact ⟨_, hr⟩

/-- A command leaves the decoder at the boundary it ran at (R112, R119). -/
theorem exec_atBoundary {i : Instr} {s t : State} (h : exec i s = .next t) (hs : s.atBoundary) : t.atBoundary := by
  obtain ⟨hstage, hreq, hcnt⟩ := hs
  rcases exec_cases i s with ⟨r, hr, same⟩ | ⟨hr, -⟩
  · obtain rfl : finished i r = t := by simpa [hr] using h
    exact ⟨same.stage.trans hstage, same.req.trans hreq, same.cnt.trans hcnt⟩
  · obtain rfl : rejected i.opcode s = t := by simpa [hr] using h
    exact ⟨hstage, hreq, hcnt⟩

/-! ### `enqueue` of one command -/

@[simp] theorem withoutBuffered_replicate (n : Nat) : withoutBuffered (List.replicate n .buffered) = [] := by
  simp [withoutBuffered]

/-- The model's `enqueue` hands back what the rule says (R124). -/
theorem withoutBuffered_eq_handedBack (rs : List FeedResult) : withoutBuffered rs = Spec.handedBack rs := by
  induction rs with
  | nil => rfl
  | cons r rs ih =>
    cases r with
    | buffered => exact ih
    | completed op ops o => exact congrArg _ ih
    | rejected b => exact congrArg _ ih

theorem collected_results (i : Instr) (s : State) : (Spec.collected i s).results = s.results := by
  unfold Spec.collected
  split <;> rfl

theorem collected_unrecorded (i : Instr) (s : State) :
    Spec.collected i s.unrecorded = (Spec.collected i s).unrecorded := by
  unfold Spec.collected
  split <;> rfl

/-- An `enqueue` of one whole command at a boundary is `exec` of it: the `Buffered` results are not handed back (R124). -/
theorem enqueue_of_command {s : State} {op : Byte} {ops : List Byte} {i : Instr} (hs : s.atBoundary)
    (hlen : ops.length = operandCount s.params.ctrlExt op) (hc : command op ops = some i) :
    enqueue (op :: ops) s = exec i (Spec.collected i s) := by
  obtain ⟨t, ht⟩ := exec_next i (Spec.collected i s).unrecorded
  obtain ⟨r, hr, notBuffered⟩ := exec_result_ne_buffered ht
  have fed : feedAll (op :: ops) s.unrecorded =
      .next (t.recordedAfter (List.replicate ops.length .buffered)) := by
    rw [← andThen_next t fun t => .next (t.recordedAfter (List.replicate ops.length .buffered)), ← ht,
      ← exec_keepsEarlierResults, feedAll_of_command (s := s.unrecorded) hs hlen hc, collected_unrecorded]
    simp [State.recordedAfter, State.unrecorded]
  have ran : exec i (Spec.collected i s) = .next (t.recordedAfter s.results) := by
    rw [← andThen_next t fun t => .next (t.recordedAfter s.results), ← ht, ← exec_keepsEarlierResults,
      ← collected_results i s, unrecorded_recordedAfter]
  rw [enqueue_eq, fed, ran]
  simp [State.recordedAfter, State.unrecorded, hr, withoutBuffered, notBuffered]

/-! ### The statements about one command -/

/-- An opcode with an entry takes as many operand bytes as the entry says (R82). -/
theorem operandCount_of_entry {ext : CtrlExt} {op : Byte} {n : Nat} (hc : isControl op = true)
    (hentry : controlCount ext op = some n) : operandCount ext op = n := by
  rw [operandCount_control ext hc, hentry, Option.getD_some]

/-- Settles O7: fewer operand bytes are collected, and the last one runs the command that they make. -/
theorem nthByteRunsTheHandlerOnce : Obligations.NthByteRunsTheHandlerOnce := by
  intro s op n ops hs hc hentry
  have hn := operandCount_of_entry hc hentry
  refine ⟨fun fewer => ?_, fun b last => ?_⟩
  · rw [feedAll_of_fewer hs.1 (hn ▸ fewer), hn]
    rfl
  · have hlen : (ops ++ [b]).length = operandCount s.params.ctrlExt op := by simp [hn, last]
    obtain ⟨i, hi⟩ := command_of_length hlen
    have read := command_standsFor hi
    refine ⟨i, hi, read.opcode, read.operands, ?_⟩
    rw [feedAll_of_last hs (hn.trans last.symm), runCommand_of_command hi, last]

/-- Settles O12: the partial command is in registers that `cancel` resets, in `cur_op`, in `opbuf` and in the record. -/
theorem cancelledCommandHasNoEffect : Obligations.CancelledCommandHasNoEffect := by
  intro s t op ops hs fewer h
  obtain rfl : s.collecting op _ ops = t := by simpa [feedAll_of_fewer hs.1 fewer] using h
  refine ⟨_, rfl, ⟨rfl, rfl, rfl⟩, ?_⟩
  conv_rhs => rw [← toOpcode_of_atBoundary hs]
  rfl

/-- Settles O57: one byte is fed with an empty record, whose results end up behind the earlier ones; and a partial command
has only `Buffered` results, which are not handed back. -/
theorem enqueueOfOneByteIsFeedWithoutBuffered : Obligations.EnqueueOfOneByteIsFeedWithoutBuffered := by
  refine ⟨fun s => ?_, fun s b => ?_, fun s op n ops hs hc hentry fewer => ?_⟩
  · simp [enqueue, feedAll, withoutBuffered]
  · have fed : feed b s = Spec.andThen (feed b s.unrecorded) fun t => .next (t.recordedAfter s.results) := by
      rw [← feed_keepsEarlierResults, unrecorded_recordedAfter]
    rw [enqueue_eq, feedAll_singleton, fed, andThen_assoc]
    refine congrArg _ (funext fun t => ?_)
    simp [State.recordedAfter, withoutBuffered_eq_handedBack]
  · have hn := operandCount_of_entry hc hentry
    have fed := feedAll_of_fewer (s := s.unrecorded) (op := op) (ops := ops) hs.1 (hn ▸ fewer)
    rw [enqueue_eq, fed, show operandCount s.unrecorded.params.ctrlExt op = n from hn]
    simp [State.collecting, State.unrecorded]

/-- Settles O5: the step is the `enqueue`, of one command. -/
theorem stepRunsDecodedInstruction : Obligations.StepRunsDecodedInstruction := by
  intro s bytes rest i hs hinput hdecode
  obtain ⟨op, ops, rfl, hlen, hc⟩ := decode_eq_ok hdecode
  rw [step_cons s _ rest hinput, List.append_nil]
  exact enqueue_of_command (s := { s with input := rest }) hs hlen hc

/-- Settles O6: what is placed is an `enqueue` of the first command of the word's bytes. -/
theorem fetchWordRunsInNextStep : Obligations.FetchWordRunsInNextStep := by
  intro s nbits w i rest hdecode
  obtain ⟨op, ops, hbytes, hlen, hc⟩ := decode_eq_ok hdecode
  have placed : (s.withFetchWord nbits w).input = .enqueue (op :: ops) :: s.input := by
    simp [State.withFetchWord, placeCommand, hbytes, firstCommandBytes, ← hlen]
  rw [step_cons _ _ _ placed]
  exact enqueue_of_command (s := s.toOpcode) ⟨rfl, rfl, rfl⟩ hlen hc

/-- Settles O8: the byte alone is the whole command, and `feed` runs it. -/
theorem noOperandRunsInSameFeed : Obligations.NoOperandRunsInSameFeed := by
  intro s op hs hn
  obtain ⟨i, hi⟩ := command_of_length (ops := []) hn.symm
  exact ⟨i, decode_of_command (ops := []) hn.symm hi [], by rw [feed_of_no_operands hs hn, runCommand_of_command hi]⟩

/-- Settles O11: the step is `cancel`, which changes nothing at a boundary. -/
theorem cancelDropsThePartialCommand : Obligations.CancelDropsThePartialCommand := by
  intro s rest hinput
  have moved : step s = .next { s with input := rest, stage := .opcode, req := 1, cnt := 0 } :=
    step_cons s .cancel rest hinput
  refine ⟨moved, fun hs => moved.trans ?_⟩
  exact congrArg _ (toOpcode_of_atBoundary (s := { s with input := rest }) hs)

end Sys2Proof.Machine
end

section
/-! PROOFS. What one `feed` returns: one result, which says where the decoder is (O9); and a byte without a table entry
(O52). -/

namespace Sys2Proof.Machine

/-! ### One result for each `feed` -/

/-- An operand byte before the last one leaves the decoder inside the command (R112). -/
theorem storeOperand_insideCommand {s : State} (h : s.insideCommand) (b : Byte) (hmore : ¬ s.req ≤ s.cnt + 1) :
    (s.storeOperand b).insideCommand := by
  obtain ⟨hstage, hpos, hnine, hcnt, hcontrol, hentry⟩ := h
  have hless : (s.storeOperand b).cnt.toNat < s.req.toNat := by
    rw [BitVec.le_def] at hmore
    exact Nat.not_le.mp hmore
  exact ⟨hstage, hpos, hnine, hless, hcontrol, hentry⟩

/-- The result that the second state adds to the record of the first says where the decoder is: inside a command, and
nothing emitted, after `Buffered`; otherwise at a boundary. -/
def ReturnsAligned (s t : State) : Prop :=
  ∃ r, t.results = s.results ++ [r] ∧
    (r = .buffered → t.insideCommand ∧ t.out = s.out) ∧ (r ≠ .buffered → t.atBoundary)

theorem ReturnsAligned.of_buffering {s u : State} (hresults : u.results = s.results) (hout : u.out = s.out)
    (hinside : u.insideCommand) : ReturnsAligned s u.buffering :=
  ⟨.buffered, by rw [State.buffering_results, hresults], fun _ => ⟨hinside, hout⟩, fun h => absurd rfl h⟩

theorem ReturnsAligned.of_runCommand {op : Byte} {ops : List Byte} {s u t : State} (hresults : u.results = s.results)
    (hu : u.atBoundary) (h : runCommand op ops u = .next t) : ReturnsAligned s t := by
  cases hc : command op ops with
  | none => simp [runCommand, hc] at h
  | some i =>
    rw [runCommand_of_command hc] at h
    obtain ⟨r, hr, notBuffered⟩ := exec_result_ne_buffered h
    exact ⟨r, hresults ▸ hr, fun buffered => absurd buffered notBuffered, fun _ => exec_atBoundary h hu⟩

/-- Settles O9: a `feed` buffers its byte inside a command, or runs a command at a boundary. -/
theorem feedReturnsOneResultAndStaysAligned : Obligations.FeedReturnsOneResultAndStaysAligned := by
  intro s t b hok h
  change ReturnsAligned s t
  rcases hok with boundary | inside
  · rcases feed_opcode_cases b s boundary.1 with ⟨-, hf⟩ | ⟨n, hn, hf⟩
    · exact .of_runCommand rfl boundary (hf ▸ h)
    · obtain rfl : (s.latch b (n + 1)).buffering = t := by simpa [hf] using h
      exact .of_buffering rfl rfl (latch_insideCommand hn)
  · rcases feed_operand_cases b s inside.1 with ⟨-, hf⟩ | ⟨hmore, hf⟩
    · exact .of_runCommand (u := (s.storeOperand b).toOpcode) rfl ⟨rfl, rfl, rfl⟩ (hf ▸ h)
    · obtain rfl : (s.storeOperand b).buffering = t := by simpa [hf] using h
      exact .of_buffering rfl rfl (storeOperand_insideCommand inside b hmore)

/-! ### A byte without a table entry -/

/-- Each of the seventeen codes that the table leaves out is read as its own constructor, whose meaning is the shared one
(R84, R300). -/
theorem unlisted_meaning {row : Byte × (List Byte → Instr)} (h : row ∈ Spec.unlisted) (ops : List Byte) (s : State) :
    command row.1 ops = some (row.2 ops) ∧ exec (row.2 ops) s = unlistedControl row.1 (row.2 ops) s := by
  simp only [Spec.unlisted, List.mem_cons, List.not_mem_nil, or_false] at h
  rcases h with rfl | rfl | rfl | rfl | rfl | rfl | rfl | rfl | rfl | rfl | rfl | rfl | rfl | rfl | rfl | rfl | rfl <;>
    exact ⟨rfl, rfl⟩

/-- The opcodes of the control table, as R83 lists them. -/
theorem listed_iff : ∀ b : Byte, b.toNat ∈ [0, 7, 10, 12, 13, 17, 18, 19, 22, 23, 24, 25, 28, 29, 31] ↔
    controlTable.lookup b ≠ none := by decide +kernel

/-- A control code without a table entry is one of the seventeen (R84). -/
theorem exists_unlisted_row {b : Byte} (hc : isControl b = true) (h : controlTable.lookup b = none) :
    ∃ row ∈ Spec.unlisted, row.1 = b := by
  have codes : ∀ b : Byte, isControl b = true → controlTable.lookup b = none → b ∈ Spec.unlisted.map (·.1) := by
    decide +kernel
  simpa using codes b hc h

/-- At stage `OPCODE`, a control code without any entry is discarded, and nothing else happens (R119). -/
theorem feed_of_no_entry {s : State} {b : Byte} (hs : s.stage = .opcode) (hc : isControl b = true)
    (hentry : controlCount s.params.ctrlExt b = none) : feed b s = .next (rejected b s) := by
  have hlookup : controlTable.lookup b = none := by
    cases hl : controlTable.lookup b with
    | none => rfl
    | some n => simp [controlCount, hl] at hentry
  have hn : operandCount s.params.ctrlExt b = 0 := by rw [operandCount_control _ hc, hentry, Option.getD_none]
  obtain ⟨row, hrow, rfl⟩ := exists_unlisted_row hc hlookup
  obtain ⟨hcommand, hexec⟩ := unlisted_meaning hrow [] s
  rw [feed_of_no_operands hs hn, runCommand_of_command hcommand, hexec, unlistedControl, hentry]

/-- At stage `OPCODE`, a code with an entry is not rejected: it is latched, or its command completes (R114, R119). -/
theorem feed_of_entry {s : State} {b : Byte} {n : Nat} (hs : s.stage = .opcode)
    (hentry : controlCount s.params.ctrlExt b = some n) :
    ∃ t r, feed b s = .next t ∧ t.results = s.results ++ [r] ∧ r ≠ .rejected b := by
  rcases feed_opcode_cases b s hs with ⟨hn, hf⟩ | ⟨m, -, hf⟩
  · obtain ⟨i, hi⟩ := command_of_length (ops := []) hn.symm
    obtain ⟨t, ht⟩ := exec_next i s
    obtain ⟨r, hr, ⟨o, rfl⟩ | ⟨-, unlisted⟩⟩ := exec_result ht
    · exact ⟨t, _, by rw [hf, runCommand_of_command hi, ht], hr, by simp [completedResult]⟩
    · simp [(command_standsFor hi).opcode, hentry] at unlisted
  · exact ⟨_, .buffered, hf, rfl, by simp⟩

/-- Settles O52: with `CTRL_EXT` empty, the entries are those of the control table. -/
theorem unlistedByteIsDiscardedAlone : Obligations.UnlistedByteIsDiscardedAlone := by
  intro s b hs hext hb
  have hc : isControl b = true := decide_eq_true hb
  rw [listed_iff]
  refine ⟨fun unlisted => ?_, fun listed => ?_⟩
  · have hlookup : controlTable.lookup b = none := not_not.mp unlisted
    exact feed_of_no_entry hs hc (by simp [controlCount, hlookup, hext])
  · obtain ⟨n, hn⟩ := Option.ne_none_iff_exists'.mp listed
    obtain ⟨t, r, hf, hr, notRejected⟩ := feed_of_entry (b := b) (n := n) hs (by simp [controlCount, hn])
    exact ⟨t, hf, by simpa [hr] using notRejected.symm⟩

end Sys2Proof.Machine
end

section
/-! PROOFS. Screen modes: the colours and the pixel aspect of a descriptor (O39, O44), the mode lookup (O42), and MODE with
a mapped and with an unmapped number (O40, O41, O43). -/

namespace Sys2Proof.Machine

/-! ### The machine's own functions in the terms of the statements -/

theorem paletteSize_eq_two_pow_bits (d : Depth) : paletteSize d = 2 ^ Spec.bits d := by cases d <;> rfl

theorem whiteLogical_eq_whiteOf (d : Depth) : whiteLogical d = Spec.whiteOf d := by cases d <;> rfl

/-- What a command leaves, with its `Present` among its events (R71, R123). -/
theorem finished_eq_done (i : Instr) (r : Reply) :
    finished i r = Spec.done r.state i.opcode i.operands r.outcome (r.events ++ presentIfNeeded r.events) := by
  simp [finished, Spec.done, completedResult, List.append_assoc]

/-- Transposing exchanges the bits that sign the two movements (R191, R193). -/
theorem movementSigns : ∀ f : Byte,
    advSign f = (if f.getLsbD (if transposed f then 2 else 1) then .minus else .plus) ∧
      eolSign f = (if f.getLsbD (if transposed f then 1 else 2) then .minus else .plus) := by decide +kernel

theorem winStart_of_sign (w : Window) (a : Axis) (negative : Bool) :
    winStart w a (if negative then .minus else .plus) =
      Spec.startEdge (winLo w a) (winHi w a) (Spec.sign negative) := by
  cases negative <;> rfl

/-- Home starts from the column edge of bit 1 and the row edge of bit 2, whichever axis the text advances along (R198). -/
theorem homeCell_eq_home (f : Byte) (w : Window) : homeCell f w = Spec.home f w := by
  obtain ⟨hadv, heol⟩ := movementSigns f
  cases ht : transposed f <;>
    simp [homeCell, Spec.home, hadv, heol, ht, winStart_of_sign, advAxis, lineAxis, cellSet, winLo, winHi, Spec.hsign,
      Spec.vsign]

/-! ### The palette of an activated mode -/

/-- An entry of `build` is in the palette RAM at its own index (R28). -/
theorem paletteRam_of_build {d : Depth} {k : Nat} {c : Colour} (h : (build d)[k]? = some c) (rest : Nat → Colour) :
    (paletteRam d rest)[k]? = some c := by
  obtain ⟨hk, -⟩ := List.getElem?_eq_some_iff.mp h
  have hsize : paletteSize d ≤ 256 := by cases d <;> decide
  have hk256 : k < 256 := (build_length d ▸ hk).trans_le hsize
  rw [Vector.getElem?_eq_getElem hk256]
  simp [paletteRam, h]

/-- The valid entries do not depend on the unspecified ones (R28). -/
theorem paletteRam_get_eq {d : Depth} {i : Fin 256} (h : i.val < paletteSize d) (rest rest' : Nat → Colour) :
    (paletteRam d rest).get i = (paletteRam d rest').get i :=
  Option.some.inj ((paletteRam_valid d rest i h).symm.trans (paletteRam_valid d rest' i h))

/-- A resolved colour does not depend on the unspecified entries (R166). -/
theorem resolveIn_paletteRam_eq (d : Depth) (rest rest' : Nat → Colour) (logical tint : Byte) :
    resolveIn d (paletteRam d rest) logical tint = resolveIn d (paletteRam d rest') logical tint :=
  paletteRam_get_eq (colourIndex_lt d logical tint) rest rest'

/-- `WHITE(bpp)` with the default tint of a foreground selects white (R147, R166). -/
theorem build_index_white (d : Depth) :
    (build d)[Spec.index d (whiteLogical d).toNat foregroundTint.toNat]? = some white := by
  cases d <;> rfl

/-- Logical colour 0 with tint 0 selects black (R166). -/
theorem build_index_black (d : Depth) : (build d)[Spec.index d 0 0]? = some black := by
  cases d <;> rfl

/-- Right after an activation, a colour resolves to the entry of `build` that its index selects (R146, R166). -/
theorem resolve_activateMode {d : ModeDesc} {logical : Logical} {tint : Byte} {c : Colour}
    (h : (build d.bitsPerPixel)[Spec.index d.bitsPerPixel logical.toNat tint.toNat]? = some c) (s : State) (sh : Bool) :
    Spec.resolve (s.activateMode d sh) logical tint = some c :=
  paletteRam_of_build h _

/-- Settles O39: the foregrounds are `WHITE(bpp)` with the foreground tint, the backgrounds 0 with tint 0. -/
theorem activatedColoursAreWhiteOnBlack : Obligations.ActivatedColoursAreWhiteOnBlack := by
  intro s d sh
  have foreground := resolve_activateMode (build_index_white d.bitsPerPixel) s sh
  have background : Spec.resolve (s.activateMode d sh) 0 0 = some black :=
    resolve_activateMode (build_index_black d.bitsPerPixel) s sh
  exact ⟨_, rfl, foreground, background, foreground, background⟩

/-! ### The pixel aspect -/

theorem pixelAspect_of_textOnly {d : ModeDesc} (h : d.pixelWidth = 0 ∨ d.pixelHeight = 0) : pixelAspect d = (1, 1) :=
  if_pos h

theorem pixelAspect_of_pixels {d : ModeDesc} (hw : d.pixelWidth ≠ 0) (hh : d.pixelHeight ≠ 0) :
    pixelAspect d = (d.unitHeight.toNat * d.pixelWidth.toNat, d.pixelHeight.toNat * d.unitWidth.toNat) :=
  if_neg (not_or.mpr ⟨hw, hh⟩)

/-- A descriptor with pixels has units (R142 (e)), so the denominator is not zero. -/
theorem pixelAspect_denominator_ne_zero (d : ModeDesc) : (pixelAspect d).2 ≠ 0 := by
  by_cases h : d.pixelWidth = 0 ∨ d.pixelHeight = 0
  · simp [pixelAspect_of_textOnly h]
  · obtain ⟨hw, hh⟩ := not_or.mp h
    have hunit : d.unitWidth ≠ 0 := (d.pixel_unit.2 hw).1
    rw [pixelAspect_of_pixels hw hh]
    exact Nat.mul_ne_zero (BitVec.toNat_ne.mp hh) (BitVec.toNat_ne.mp hunit)

/-- Settles O44: the fraction is the quotient of quotients with its divisions cleared. -/
theorem pixelAspectIsExact : Obligations.PixelAspectIsExact := by
  refine fun d => ⟨pixelAspect_denominator_ne_zero d, fun textOnly => ?_, fun hw hh => ?_⟩
  · simp [pixelAspect_of_textOnly textOnly]
  · rw [pixelAspect_of_pixels hw hh, div_div_div_eq]
    push_cast
    rfl

/-! ### The mode lookup -/

/-- A number is unmapped when no descriptor of the table has it (R142, R143). -/
theorem modeEntry_eq_none_iff {p : Params} {m : ModeNumber} :
    modeEntry p m = none ↔ ∀ d ∈ p.resetMode :: p.otherModes, d.id ≠ m := by
  unfold modeEntry
  simp only [List.find?_eq_none, beq_iff_eq, ne_eq]

theorem lowSeven_toNat (b : Byte) : (lowSeven b).toNat = b.toNat % 128 := by
  simp [lowSeven]

/-- Bit 7 is outside the masked number (R143). -/
theorem lowSeven_setTopBit : ∀ b : Byte, lowSeven (b ||| 0x80) = lowSeven b := by decide +kernel

/-- Settles O42: the lookup reads the masked number alone, and either finds an entry with it or reports it. -/
theorem shadowBitDoesNotAffectLookup : Obligations.ShadowBitDoesNotAffectLookup := by
  intro p n
  refine ⟨congrArg (lookupMode p) (lowSeven_setTopBit n), ?_⟩
  unfold resolveMode
  rw [← lowSeven_toNat n]
  rcases lookupMode_cases p (lowSeven n) with ⟨d, found, -, hid, hmem⟩ | ⟨unmapped, hnone⟩
  · rw [found]
    refine ⟨fun e he => ?_, nofun⟩
    obtain rfl : d = e := by simpa using he
    exact ⟨congrArg _ hid, hmem⟩
  · rw [unmapped]
    refine ⟨nofun, fun m hm => ?_⟩
    obtain rfl : lowSeven n = m := by simpa using hm
    exact ⟨rfl, modeEntry_eq_none_iff.mp hnone⟩

/-! ### MODE -/

/-- MODE finishes on the reply of its handler (R148). -/
theorem exec_mode (sh : Bool) (n : ModeNumber) (s : State) :
    exec (.mode sh n) s = .next (Spec.done (modeReply sh n s).state 22 [splitByte sh n] (modeReply sh n s).outcome
      ((modeReply sh n s).events ++ presentIfNeeded (modeReply sh n s).events)) :=
  congrArg _ (finished_eq_done (.mode sh n) (modeReply sh n s))

/-- MODE with a mapped number announces the activated mode, and `Present` follows (R148, R71). -/
theorem exec_mode_of_mapped {s : State} {n : ModeNumber} {d : ModeDesc} (mapped : modeEntry s.params n = some d)
    (sh : Bool) :
    exec (.mode sh n) s = .next (Spec.done (s.activateMode d sh) 22 [splitByte sh n] .handled
      [.ren (.modeChanged d sh), .ren .present]) := by
  rcases modeReply_cases sh n s with ⟨unmapped, -⟩ | ⟨e, he, -, reply⟩
  · simp [mapped] at unmapped
  · obtain rfl : d = e := by simpa [mapped] using he
    rw [exec_mode, reply]
    rfl

/-- Settles O40: what the activated state holds, in the statement's own terms. -/
theorem mappedModeIsActivated : Obligations.MappedModeIsActivated := by
  intro s sh n d mapped
  refine ⟨(s.activateMode d sh).palette, fun i hi => ?_, ?_⟩
  · exact paletteRam_valid _ _ i (by rwa [paletteSize_eq_two_pow_bits])
  · rw [exec_mode_of_mapped mapped, ← homeCell_eq_home, ← whiteLogical_eq_whiteOf]
    rfl

/-- Settles O41: the handler raises the signal on the state it was given. -/
theorem unmappedModeChangesNothing : Obligations.UnmappedModeChangesNothing := by
  intro s sh n unmapped
  rcases modeReply_cases sh n s with ⟨-, reply⟩ | ⟨d, mapped, -, -⟩
  · rw [exec_mode, reply]
    rfl
  · simp [unmapped] at mapped

/-- Settles O43: what an activation writes comes from the descriptor, the flags and the cursor appearance; only the
unspecified palette entries may differ, and no colour resolves to one. -/
theorem modeForgetsWhatWasBefore : Obligations.ModeForgetsWhatWasBefore := by
  intro s1 s2 t1 t2 sh n d hparams hflags happearance mapped h1 h2
  rw [exec_mode_of_mapped mapped] at h1
  rw [exec_mode_of_mapped (hparams ▸ mapped)] at h2
  cases h1
  cases h2
  have htext := congrArg (homeCell · (fullTextWindow d)) hflags
  have hvars := congrArg (activatedVars d) happearance
  exact ⟨rfl, rfl, rfl, rfl, rfl, rfl, htext, hvars, hflags, fun i hi => paletteRam_get_eq hi _ _,
    fun logical tint => resolveIn_paletteRam_eq _ _ _ logical tint⟩

end Sys2Proof.Machine
end

section
/-! PROOFS. The colours: how a logical colour and a tint select a palette entry (O37, O38), what the default palettes hold
(O36, O58), and the commands COLOUR, GCOL and PALETTE (O33 to O35). -/

namespace Sys2Proof.Machine

/-! ### The index formula (R166) -/

/-- A masked byte keeps its value through a left shift that leaves the mask within eight bits. -/
theorem toNat_and_shiftLeft (b mask : Byte) (n : Nat) (h : mask.toNat <<< n < 2 ^ 8) :
    ((b &&& mask) <<< n).toNat = (b.toNat &&& mask.toNat) <<< n := by
  have hle : (b.toNat &&& mask.toNat) <<< n ≤ mask.toNat <<< n := by
    simpa only [Nat.shiftLeft_eq] using Nat.mul_le_mul_right _ Nat.and_le_right
  rw [BitVec.toNat_shiftLeft, BitVec.toNat_and, Nat.mod_eq_of_lt (hle.trans_lt h)]

/-- At 8 bpp no shift loses a bit; below, masking with `2^bpp − 1` is the remainder (R166). -/
theorem colourIndex_toNat (d : Depth) (logical tint : Byte) :
    (colourIndex d logical tint).toNat = Spec.index d logical.toNat tint.toNat := by
  cases d with
  | bpp1 => exact (BitVec.toNat_and ..).trans (Nat.and_two_pow_sub_one_eq_mod _ 1)
  | bpp2 => exact (BitVec.toNat_and ..).trans (Nat.and_two_pow_sub_one_eq_mod _ 2)
  | bpp4 => exact (BitVec.toNat_and ..).trans (Nat.and_two_pow_sub_one_eq_mod _ 4)
  | bpp8 =>
    have h33 := toNat_and_shiftLeft logical 33 2 (by decide)
    have h14 := toNat_and_shiftLeft logical 14 3 (by decide)
    simp only [colourIndex, BitVec.toNat_or, BitVec.toNat_ushiftRight, BitVec.toNat_and, h33, h14]
    rfl

/-- A seven-bit colour keeps its value as a byte, and every index is an entry of the palette RAM (R166). -/
theorem resolve_eq_resolveColour (s : State) (logical : Logical) (tint : Byte) :
    Spec.resolve s logical tint = some (s.resolveColour (logical.setWidth 8) tint) := by
  have hwidth : (logical.setWidth 8).toNat = logical.toNat := BitVec.toNat_setWidth_of_le (by decide)
  rw [Spec.resolve, ← hwidth, ← colourIndex_toNat]
  exact Vector.getElem?_eq_getElem (BitVec.isLt _)

/-- Settles O37: the bit-vector formula computes the natural-number one, and its values are valid indices. -/
theorem colourResolvesThroughTheFormula : Obligations.ColourResolvesThroughTheFormula :=
  ⟨fun d logical tint => ⟨colourIndex_toNat d logical tint,
    paletteSize_eq_two_pow_bits d ▸ colourIndex_lt d logical tint⟩, resolve_eq_resolveColour⟩

/-! ### The tinted index (R167 (d)) -/

/-- The logical colour below 64 that the formula of 8 bpp scattered over the high six bits of an index (R166). -/
def indexLogical (k : Byte) : Byte := ((k >>> 2) &&& 33) ||| ((k >>> 3) &&& 14) ||| ((k <<< 1) &&& 16)

/-- The formula puts the low six bits of the logical colour where `indexLogical` collects them. -/
theorem indexLogical_colourIndex (logical tint : Byte) :
    indexLogical (colourIndex .bpp8 logical tint) = logical &&& 63 := by
  apply BitVec.eq_of_getLsbD_eq
  intro i hi
  interval_cases i <;> simp [indexLogical, colourIndex]

/-- The formula puts the top two bits of the tint in the low two bits of the index. -/
theorem colourIndex_and_three (logical tint : Byte) : colourIndex .bpp8 logical tint &&& 3 = tint >>> 6 := by
  apply BitVec.eq_of_getLsbD_eq
  intro i hi
  interval_cases i <;> simp [colourIndex]

theorem indexLogical_lt : ∀ k : Byte, (indexLogical k).toNat < 64 := by decide +kernel

/-- The logical colour and the tint that are read from an index select it. -/
theorem colourIndex_indexLogical : ∀ k : Byte, colourIndex .bpp8 (indexLogical k) (k <<< 6) = k := by decide +kernel

theorem toNat_and_63 (b : Byte) : (b &&& 63).toNat = b.toNat % 64 :=
  (BitVec.toNat_and ..).trans (Nat.and_two_pow_sub_one_eq_mod _ 6)

/-- Settles O38: the six bits of the logical colour and the two bits of the tint can be read back from the index. -/
theorem tintedIndexIsABijection : Obligations.TintedIndexIsABijection := by
  refine ⟨fun l l' t t' same => ⟨?_, ?_⟩, fun k => ⟨_, _, indexLogical_lt k, colourIndex_indexLogical k⟩⟩
  · have hlogical : l &&& 63 = l' &&& 63 := by
      rw [← indexLogical_colourIndex l t, same, indexLogical_colourIndex]
    simpa only [toNat_and_63] using congrArg BitVec.toNat hlogical
  · have htint : t >>> 6 = t' >>> 6 := by
      rw [← colourIndex_and_three l t, same, colourIndex_and_three]
    simpa [Nat.shiftRight_eq_div_pow] using congrArg BitVec.toNat htint

/-! ### The default palettes (R161 to R165) -/

/-- Entry by entry, the palette of 8 bpp is `build8` (R164). -/
theorem build_bpp8_getElem?_eq_some {i : Nat} {c : Colour} :
    (build .bpp8)[i]? = some c ↔ i < 256 ∧ build8 (BitVec.ofNat 8 i) = c := by
  simp [build, List.getElem?_eq_some_iff]

/-- The masks of R164 as remainders and quotients: the level of each channel, from the bits of the index. -/
theorem build8_levels : ∀ k : Byte,
    (build8 k).r.toNat = 17 * (k.toNat % 8 + 8 * (k.toNat / 16 % 2)) ∧
      (build8 k).g.toNat = 17 * (k.toNat % 4 + 4 * (k.toNat / 32 % 4)) ∧
      (build8 k).b.toNat = 17 * (k.toNat % 4 + 4 * (k.toNat / 8 % 2) + 8 * (k.toNat / 128)) := by decide +kernel

/-- The index of an entry of `build(8)`, gathered from the levels of its three channels: 17 times a level has the level in
its low four bits. -/
def build8Index (c : Colour) : Byte :=
  (c.r &&& 7) ||| ((c.b &&& 4) <<< 1) ||| ((c.r &&& 8) <<< 1) ||| ((c.g &&& 12) <<< 3) ||| ((c.b &&& 8) <<< 4)

/-- The three levels together hold every bit of the index (R167 (c)). -/
theorem build8Index_build8 : Function.LeftInverse build8Index build8 := by
  unfold Function.LeftInverse
  decide +kernel

theorem build_bpp8_nodup : (build .bpp8).Nodup := by
  refine List.nodup_range.map_on fun i hi j hj same => ?_
  have hij := congrArg BitVec.toNat (build8Index_build8.injective same)
  rw [List.mem_range] at hi hj
  simpa [Nat.mod_eq_of_lt hi, Nat.mod_eq_of_lt hj] using hij

/-- Settles O36: the entries are those of `build8`, whose levels tell them apart. -/
theorem eightBitPaletteIsExact : Obligations.EightBitPaletteIsExact := by
  refine ⟨build_length .bpp8, build_bpp8_nodup, fun i c entry => ?_⟩
  obtain ⟨hi, rfl⟩ := build_bpp8_getElem?_eq_some.mp entry
  have levels := build8_levels (BitVec.ofNat 8 i)
  rwa [BitVec.toNat_ofNat, Nat.mod_eq_of_lt hi] at levels

/-- Settles O58: the lists of colour names, as red, green and blue values; and the two ends of the palette of 8 bpp. -/
theorem smallPalettesAreExact : Obligations.SmallPalettesAreExact :=
  ⟨rfl, rfl, rfl, build_bpp8_getElem?_eq_some.mpr ⟨by decide, by decide⟩,
    build_bpp8_getElem?_eq_some.mpr ⟨by decide, by decide⟩⟩

/-! ### The operand byte of COLOUR and GCOL (R86, R87) -/

theorem topBit_of_ge {c : Byte} (h : 128 ≤ c.toNat) : topBit c = true :=
  (BitVec.msb_eq_decide c).trans (decide_eq_true h)

theorem topBit_of_lt {c : Byte} (h : c.toNat < 128) : topBit c = false :=
  (BitVec.msb_eq_decide c).trans (decide_eq_false h.not_ge)

theorem lowSeven_of_ge {c : Byte} (h : 128 ≤ c.toNat) : lowSeven c = BitVec.ofNat 7 (c.toNat - 128) := by
  apply BitVec.eq_of_toNat_eq
  rw [lowSeven_toNat, BitVec.toNat_ofNat]
  omega

theorem lowSeven_eq_ofNat (c : Byte) : lowSeven c = BitVec.ofNat 7 c.toNat := by
  apply BitVec.eq_of_toNat_eq
  rw [lowSeven_toNat, BitVec.toNat_ofNat]

/-! ### COLOUR, GCOL and PALETTE (R170, R172, R174) -/

/-- COLOUR finishes without an event on the state that its handler wrote (R170). -/
theorem exec_colour (background : Bool) (c : Logical) (s : State) :
    exec (.colour background c) s = .next { Spec.done s 17 [splitByte background c] .handled [] with
      v := if background then { s.v with textBg := c } else { s.v with textFg := c } } :=
  congrArg _ (finished_eq_done (.colour background c) _)

/-- GCOL finishes without an event on the state that its handler wrote (R172). -/
theorem exec_gcol (action : Byte) (background : Bool) (c : Logical) (s : State) :
    exec (.gcol action background c) s = .next { Spec.done s 18 [action, splitByte background c] .handled [] with
      v := if background then { s.v with gfxBg := c, gfxBgAction := action }
        else { s.v with gfxFg := c, gfxFgAction := action } } :=
  congrArg _ (finished_eq_done (.gcol action background c) _)

/-- Settles O33: bit 7 of the operand byte chooses the slot, and the other seven bits are what it gets. -/
theorem colourSetsOneTextSlot : Obligations.ColourSetsOneTextSlot := by
  refine fun c s => ⟨fun background => ?_, fun foreground => ?_⟩ <;> rw [exec_colour, splitByte_topBit_lowSeven]
  · rw [topBit_of_ge background, lowSeven_of_ge background]
    rfl
  · rw [topBit_of_lt foreground, lowSeven_eq_ofNat]
    rfl

/-- Settles O34: bit 7 of the colour byte chooses the side, and the other seven bits are its colour. -/
theorem gcolSetsOneSide : Obligations.GcolSetsOneSide := by
  refine fun a c s => ⟨fun background => ?_, fun foreground => ?_⟩ <;> rw [exec_gcol, splitByte_topBit_lowSeven]
  · rw [topBit_of_ge background, lowSeven_of_ge background]
    rfl
  · rw [topBit_of_lt foreground, lowSeven_eq_ofNat]
    rfl

/-- Settles O35: the handler raises the signal on the state it was given, and a signal is not followed by `Present`. -/
theorem paletteCommandLeavesThePalette : Obligations.PaletteCommandLeavesThePalette :=
  fun l p r g b s => congrArg _ (finished_eq_done (.palette l p r g b) (raise s _ .unsupported))

end Sys2Proof.Machine
end

section
/-! PROOFS. Text: the vectors of the flags (O32), the motions of the text cursor over integers along any of the two axes,
the commands NUL, BEL, LF, CLS, CR, TAB, CHAR, DEL and UDG (O24 to O30), and a back step after an advance (O31). -/

namespace Sys2Proof.Machine

/-! ### Cells along an axis -/

@[simp] theorem cellSet_cellSet (c : Cell) (v v' : S16) (a : Axis) : cellSet (cellSet c v a) v' a = cellSet c v' a := by
  cases a <;> rfl

@[simp] theorem cellSet_cellPos (c : Cell) (a : Axis) : cellSet c (cellPos c a) a = c := by cases a <;> rfl

/-! ### Signs as integers (R192, R196) -/

/-- The integer that a sign stands for (R192). -/
def Sign.val : Sign → Int
  | .plus => 1
  | .minus => -1

theorem Sign.opposite_val (sg : Sign) : sg.opposite.val = -sg.val := by cases sg <;> rfl

theorem Sign.step_opposite (sg : Sign) : sg.opposite.step = -sg.step := by cases sg <;> rfl

theorem Sign.times_true (sg : Sign) : sg.times true = Spec.dir sg.val := by cases sg <;> rfl

theorem Sign.val_of_bit (negative : Bool) :
    (if negative then Sign.minus else Sign.plus).val = Spec.sign negative := by
  cases negative <;> rfl

/-- Adding the step of a sign is adding its integer and wrapping (R7). -/
theorem add_step_eq_wrap16 (v : S16) (sg : Sign) : v + sg.step = Spec.wrap16 (v.toInt + sg.val) := by
  have hstep : sg.step = BitVec.ofInt 16 sg.val := by cases sg <;> rfl
  rw [Spec.wrap16, BitVec.ofInt_add, BitVec.ofInt_toInt, hstep]

theorem sub_step_eq_wrap16 (v : S16) (sg : Sign) : v - sg.step = Spec.wrap16 (v.toInt - sg.val) := by
  rw [BitVec.sub_eq_add_neg, ← sg.step_opposite, add_step_eq_wrap16, sg.opposite_val, Int.sub_eq_add_neg]

theorem winStart_eq_startEdge (w : Window) (a : Axis) (sg : Sign) :
    winStart w a sg = Spec.startEdge (winLo w a) (winHi w a) sg.val := by
  cases sg <;> rfl

theorem winEnd_eq_endEdge (w : Window) (a : Axis) (sg : Sign) :
    winEnd w a sg = Spec.endEdge (winLo w a) (winHi w a) sg.val := by
  cases sg <;> rfl

theorem beyond_eq_past (w : Window) (a : Axis) (sg : Sign) (v : S16) :
    beyond w a sg v = Spec.past (winLo w a) (winHi w a) sg.val v := by
  cases sg <;> rfl

/-! ### The flags -/

/-- The sign that the flags give to movement along an axis, whichever of the two movements it is (R193). -/
def axisSign (f : Byte) : Axis → Int
  | .col => Spec.hsign f
  | .row => Spec.vsign f

/-- The normal advance has the sign of its axis (R191, R193). -/
theorem advSign_val (f : Byte) : (advSign f).val = axisSign f (advAxis f) := by
  rw [(movementSigns f).1, Sign.val_of_bit]
  unfold advAxis
  cases transposed f <;> rfl

/-- The end-of-line movement has the sign of its axis (R191, R193). -/
theorem eolSign_val (f : Byte) : (eolSign f).val = axisSign f (lineAxis f) := by
  rw [(movementSigns f).2, Sign.val_of_bit]
  unfold lineAxis
  cases transposed f <;> rfl

theorem moving_eq_true {f : Byte} : moving f = true ↔ f.getLsbD 5 = false := by simp [moving]

theorem moving_eq_false {f : Byte} : moving f = false ↔ f.getLsbD 5 = true := by simp [moving]

/-- With movement suppressed both vectors are zero (R191). -/
theorem decodeFlags_of_still {f : Byte} (still : f.getLsbD 5 = true) :
    decodeFlags f = ⟨⟨.zero, .zero⟩, ⟨.zero, .zero⟩, true, f.getLsbD 6⟩ := by
  simp [decodeFlags, moving_eq_false.mpr still, Sign.times, still, Vec.swap]

/-- The vectors of an untransposed advance (R191). -/
theorem decodeFlags_of_horizontal {f : Byte} (moves : f.getLsbD 5 = false) (horizontal : f.getLsbD 3 = false) :
    decodeFlags f = ⟨⟨Spec.dir (Spec.hsign f), .zero⟩, ⟨.zero, Spec.dir (Spec.vsign f)⟩, false, f.getLsbD 6⟩ := by
  have untransposed : transposed f = false := horizontal
  simp only [decodeFlags, moving_eq_true.mpr moves, moves, untransposed, Sign.times_true, advSign_val, eolSign_val,
    advAxis, lineAxis, axisSign, Bool.false_eq_true, if_false]

/-- The vectors of a transposed advance: the two are swapped (R191). -/
theorem decodeFlags_of_vertical {f : Byte} (moves : f.getLsbD 5 = false) (vertical : f.getLsbD 3 = true) :
    decodeFlags f = ⟨⟨.zero, Spec.dir (Spec.vsign f)⟩, ⟨Spec.dir (Spec.hsign f), .zero⟩, false, f.getLsbD 6⟩ := by
  have transposed : transposed f = true := vertical
  simp only [decodeFlags, moving_eq_true.mpr moves, moves, transposed, Sign.times_true, advSign_val, eolSign_val,
    advAxis, lineAxis, axisSign, Vec.swap, if_true]

/-- Settles O32: bit 5 suppresses both vectors, and bit 3 says which of the two axes each is along. -/
theorem flagVectorsMatchTheTable : Obligations.FlagVectorsMatchTheTable := fun _ =>
  ⟨decodeFlags_of_still, decodeFlags_of_horizontal, decodeFlags_of_vertical⟩

/-- A scroll request of moving text carries the end-of-line vector of R193. -/
theorem decodeFlags_eol {f : Byte} (moves : moving f = true) : (decodeFlags f).eol = Spec.eolVec f := by
  have unsuppressed := moving_eq_true.mp moves
  cases h : f.getLsbD 3 with
  | false => rw [decodeFlags_of_horizontal unsuppressed h, Spec.eolVec, h]; rfl
  | true => rw [decodeFlags_of_vertical unsuppressed h, Spec.eolVec, h]; rfl

/-! ### The motions that the statements use, along the axes of the flags -/

theorem specLineStep_along (f : Byte) (w : Window) (c : Cell) :
    Spec.lineStep f w c =
      if moving f then
        let r := Spec.lineAlong (winLo w (lineAxis f)) (winHi w (lineAxis f)) (axisSign f (lineAxis f))
          (cellPos c (lineAxis f))
        (cellSet c r.1 (lineAxis f), Spec.scrollIf r.2 (Spec.eolVec f))
      else (c, []) := by
  unfold Spec.lineStep moving lineAxis transposed
  cases f.getLsbD 5 <;> cases f.getLsbD 3 <;> rfl

theorem specAdvance_along (f : Byte) (w : Window) (c : Cell) :
    Spec.advance f w c =
      if moving f then
        let lo := winLo w (advAxis f)
        let hi := winHi w (advAxis f)
        let a := Spec.wrap16 ((cellPos c (advAxis f)).toInt + axisSign f (advAxis f))
        if Spec.past lo hi (axisSign f (advAxis f)) a then
          Spec.lineStep f w (cellSet c (Spec.startEdge lo hi (axisSign f (advAxis f))) (advAxis f))
        else (cellSet c a (advAxis f), [])
      else (c, []) := by
  unfold Spec.advance moving advAxis transposed
  cases f.getLsbD 5 <;> cases f.getLsbD 3 <;> rfl

theorem specBackStep_along (f : Byte) (w : Window) (c : Cell) :
    Spec.backStep f w c =
      if moving f then
        let lo := winLo w (advAxis f)
        let hi := winHi w (advAxis f)
        let a := Spec.wrap16 ((cellPos c (advAxis f)).toInt - axisSign f (advAxis f))
        let e := Spec.wrap16 ((cellPos c (lineAxis f)).toInt - axisSign f (lineAxis f))
        if Spec.past lo hi (-axisSign f (advAxis f)) a then
          if Spec.past (winLo w (lineAxis f)) (winHi w (lineAxis f)) (-axisSign f (lineAxis f)) e then c
          else cellSet (cellSet c (Spec.endEdge lo hi (axisSign f (advAxis f))) (advAxis f)) e (lineAxis f)
        else cellSet c a (advAxis f)
      else c := by
  unfold Spec.backStep moving advAxis lineAxis transposed
  cases f.getLsbD 5 <;> cases f.getLsbD 3 <;> rfl

theorem specCarriage_along (f : Byte) (w : Window) (c : Cell) :
    Spec.carriage f w c =
      cellSet c (Spec.startEdge (winLo w (advAxis f)) (winHi w (advAxis f)) (axisSign f (advAxis f))) (advAxis f) := by
  unfold Spec.carriage advAxis transposed
  cases f.getLsbD 3 <;> rfl

/-! ### The machine's motions are those -/

/-- The machine's line step is that of R197 over integers. -/
theorem lineStep_eq_spec (f : Byte) (w : Window) (c : Cell) :
    Spec.lineStep f w c = ((lineStep f w c).cell, (lineStep f w c).events) := by
  simp only [specLineStep_along, Spec.lineAlong, ← eolSign_val, ← add_step_eq_wrap16, ← beyond_eq_past,
    ← winEnd_eq_endEdge]
  rcases lineStep_cases f w c with ⟨still, h⟩ | ⟨moves, inside, h⟩ | ⟨moves, passed, h⟩
  · simp [still, h]
  · simp [moves, inside, h, Spec.scrollIf]
  · simp [moves, passed, h, Spec.scrollIf, decodeFlags_eol moves]

/-- The machine's advance is that of R199 over integers. -/
theorem advanceAfterPrint_eq_spec (f : Byte) (w : Window) (c : Cell) :
    Spec.advance f w c = ((advanceAfterPrint f w c).cell, (advanceAfterPrint f w c).events) := by
  simp only [specAdvance_along, ← advSign_val, ← add_step_eq_wrap16, ← beyond_eq_past, ← winStart_eq_startEdge]
  rcases advance_cases f w c with ⟨still, h⟩ | ⟨moves, inside, h⟩ | ⟨moves, passed, h⟩
  · simp [still, h]
  · simp [moves, inside, h]
  · simp [moves, passed, h, lineStep_eq_spec]

/-- The machine's back step is that of R200 over integers. -/
theorem backStep_eq_spec (f : Byte) (w : Window) (c : Cell) : Spec.backStep f w c = backStep f w c := by
  simp only [specBackStep_along, ← advSign_val, ← eolSign_val, ← Sign.opposite_val, ← sub_step_eq_wrap16,
    ← beyond_eq_past, ← winEnd_eq_endEdge]
  rcases backStep_cases f w c with
    ⟨still, h⟩ | ⟨moves, inside, h⟩ | ⟨moves, passed, first, h⟩ | ⟨moves, passed, before, h⟩
  · simp [still, h]
  · simp [moves, inside, h]
  · simp [moves, passed, first, h]
  · simp [moves, passed, before, h]

/-- The machine's carriage return is that of R214. -/
theorem carriageReturn_eq_spec (f : Byte) (w : Window) (c : Cell) : Spec.carriage f w c = carriageReturn f w c := by
  rw [specCarriage_along, ← advSign_val, ← winStart_eq_startEdge]
  rfl

/-! ### The commands -/

/-- A line step is followed by `Present` exactly when it asks for a scroll (R71, R197). -/
theorem presentIfNeeded_lineStep (f : Byte) (w : Window) (c : Cell) :
    presentIfNeeded (lineStep f w c).events = if (lineStep f w c).events = [] then [] else [.ren .present] := by
  rcases lineStep_events f w c with h | h <;> rw [h] <;> rfl

/-- A text command that does its work finishes on the state its handler wrote, with the `Present` that is due (R71). -/
theorem finish_handled (i : Instr) (s : State) (ev : List Event) :
    finish i (handled s ev) =
      .next (Spec.done s i.opcode i.operands .handled (ev ++ presentIfNeeded ev)) :=
  congrArg _ (finished_eq_done i (handled s ev))

/-- After printing, `Present` is due whether the advance asked for a scroll or not (R71, R216). -/
theorem finish_printCode (i : Instr) (code : Byte) (s : State) :
    let m := advanceAfterPrint s.flags s.v.twin s.text
    finish i (printCode code s) =
      .next { Spec.done s i.opcode i.operands .handled
        (.txt (.putChar code s.text.col s.text.row) :: m.events ++ [.ren .present]) with text := m.cell } := by
  intro m
  have due : presentIfNeeded (.txt (.putChar code s.text.col s.text.row) :: m.events) = [.ren .present] :=
    presentIfNeeded_of_request ⟨_, List.mem_cons_self, rfl⟩
  rw [← due]
  exact finish_handled ..

/-- Settles O24: the handlers write nothing, and `Bell` is a request. -/
theorem nulAndBelResults : Obligations.NulAndBelResults := fun s =>
  ⟨finish_handled .nul s [], finish_handled .bel s [.txt .bell]⟩

/-- Settles O25: the handler takes the line step of R197, and `Present` follows its scroll request. -/
theorem lineFeedTakesOneLineStep : Obligations.LineFeedTakesOneLineStep := by
  intro s c ev h
  obtain ⟨rfl, rfl⟩ := Prod.mk.inj ((lineStep_eq_spec ..).symm.trans h)
  rw [← presentIfNeeded_lineStep]
  exact finish_handled .lf ..

/-- Settles O26: home is where the signs of the two axes put it. -/
theorem clearTextSendsCursorHome : Obligations.ClearTextSendsCursorHome := by
  intro s
  rw [← homeCell_eq_home]
  exact finish_handled .cls ..

/-- Settles O27: the handler writes the start edge of the advance axis and emits nothing. -/
theorem carriageReturnGoesToStartEdge : Obligations.CarriageReturnGoesToStartEdge := by
  intro s
  rw [carriageReturn_eq_spec]
  exact finish_handled .cr ..

/-- Settles O28: the handler writes both bytes and emits nothing. -/
theorem tabStoresBothBytes : Obligations.TabStoresBothBytes := by
  intro c r s
  rw [BitVec.ofNat_toNat, BitVec.ofNat_toNat]
  exact finish_handled (.tab c r) ..

/-- Settles O29: both commands print, and the cursor advances as R199 says. -/
theorem printingSendsCodeThenAdvances : Obligations.PrintingSendsCodeThenAdvances := by
  intro b s c ev h
  obtain ⟨rfl, rfl⟩ := Prod.mk.inj ((advanceAfterPrint_eq_spec ..).symm.trans h)
  exact ⟨finish_printCode (.char b) b s, finish_printCode (.udg b) b s⟩

/-- Settles O30: the request carries the cell that the back step of R200 came to. -/
theorem deleteStepsBackThenDeletes : Obligations.DeleteStepsBackThenDeletes := by
  rintro s c rfl
  rw [backStep_eq_spec]
  exact finish_handled .del ..

/-! ### A back step after an advance -/

/-- A step that stays among the 16-bit coordinates does not wrap (R7). -/
theorem toInt_add_step {v : S16} {sg : Sign} (low : -2 ^ 15 ≤ v.toInt + sg.val) (high : v.toInt + sg.val < 2 ^ 15) :
    (v + sg.step).toInt = v.toInt + sg.val := by
  have hstep : sg.step.toInt = sg.val := by cases sg <;> rfl
  rw [BitVec.toInt_add, hstep]
  exact Int.bmod_eq_of_le low high

/-- Before the last cell of its line, one step does not pass the window: it does not even wrap, since the window's edge
in its direction is itself a coordinate (R196). -/
theorem not_beyond_step_of_insideLine {w : Window} {a : Axis} {sg : Sign} {v : S16}
    (h : Spec.insideLine (winLo w a) (winHi w a) sg.val v) : beyond w a sg (v + sg.step) = false := by
  obtain ⟨above, below, notEnd⟩ := h
  have notEdge : v.toInt ≠ (Spec.endEdge (winLo w a) (winHi w a) sg.val).toInt := mt BitVec.eq_of_toInt_eq notEnd
  have lowest := (winLo w a).le_toInt
  have highest := (winHi w a).toInt_lt
  cases sg with
  | plus =>
    have short : v.toInt + 1 ≤ (winHi w a).toInt := Int.add_one_le_of_lt (lt_of_le_of_ne below notEdge)
    have next : (v + Sign.plus.step).toInt = v.toInt + 1 :=
      toInt_add_step (sg := .plus) (by simp only [Sign.val]; omega) (short.trans_lt highest)
    exact decide_eq_false (next.trans_le short).not_gt
  | minus =>
    have short : (winLo w a).toInt ≤ v.toInt - 1 := Int.le_sub_one_of_lt (lt_of_le_of_ne above notEdge.symm)
    have next : (v + Sign.minus.step).toInt = v.toInt - 1 :=
      toInt_add_step (sg := .minus) (lowest.trans short) (by simp only [Sign.val]; omega)
    exact decide_eq_false (short.trans_eq next.symm).not_gt

/-- Within the window no edge is passed, whatever the direction (R196). -/
theorem not_beyond_of_within {w : Window} {a : Axis} {v : S16} (above : (winLo w a).toInt ≤ v.toInt)
    (below : v.toInt ≤ (winHi w a).toInt) (sg : Sign) : beyond w a sg v = false := by
  cases sg with
  | plus => exact decide_eq_false below.not_gt
  | minus => exact decide_eq_false above.not_gt

/-- A cursor inside its line is inside it along the advance axis of the flags (R196). -/
theorem insideLine_along {f : Byte} {w : Window} {c : Cell}
    (horizontal : f.getLsbD 3 = false → Spec.insideLine w.left w.right (Spec.hsign f) c.col)
    (vertical : f.getLsbD 3 = true → Spec.insideLine w.top w.bottom (Spec.vsign f) c.row) :
    Spec.insideLine (winLo w (advAxis f)) (winHi w (advAxis f)) (advSign f).val (cellPos c (advAxis f)) := by
  rw [advSign_val]
  unfold advAxis transposed
  cases h : f.getLsbD 3 with
  | false => exact horizontal h
  | true => exact vertical h

/-- Settles O31: inside the line the advance is one step, and the step back comes to a cell within the window. -/
theorem deleteUndoesAnAdvance : Obligations.DeleteUndoesAnAdvance := by
  intro f w c horizontal vertical
  have inside := insideLine_along horizontal vertical
  have ⟨above, below, _⟩ := inside
  have back := not_beyond_of_within above below (advSign f).opposite
  rcases advance_cases f w c with ⟨still, h⟩ | ⟨moves, -, h⟩ | ⟨-, passed, -⟩
  · simp [h, backStep, still]
  · simp [h, backStep, moves, back]
  · simp [not_beyond_step_of_insideLine inside] at passed

end Sys2Proof.Machine
end

section
/-! PROOFS. PLOT: a row that refines opcode 23 or 25 means what the whole command means (O50); every PLOT shifts the history
(O53), Move does nothing more (O54), and a drawing effect sends the request of a supported primitive (O55) or raises the
signal of an unsupported one (O56). -/

namespace Sys2Proof.Machine

/-! ### The rows that refine opcode 23 (R280) -/

/-- A sub-code that is none of the four is reported (R288). -/
theorem vdu23Reply_of_reserved {sub : Byte} (h : isSubCode sub = false) (p1 p2 p3 : Byte) (s : State) :
    vdu23Reply sub p1 p2 p3 s = badSubCode sub s := by
  simp only [isSubCode, Bool.or_eq_false_iff, beq_eq_false_iff_ne, ne_eq] at h
  obtain ⟨⟨⟨notCursor, notScroll⟩, notPrintdir⟩, notTint⟩ := h
  simp [vdu23Reply, notCursor, notScroll, notPrintdir, notTint]

/-- The row of a sub-code runs the sub-command that the whole command selects (R99, R280). -/
theorem exec_vdu23Refined (sub p1 p2 p3 p4 p5 p6 p7 p8 : Byte) (s : State) :
    exec (vdu23Refined sub p1 p2 p3 p4 p5 p6 p7 p8) s =
      finish (.vdu23 sub p1 p2 p3 p4 p5 p6 p7 p8) (vdu23Reply sub p1 p2 p3 s) := by
  by_cases h : isSubCode sub = true
  · obtain ((rfl | rfl) | rfl) | rfl : ((sub = subCursor ∨ sub = subScroll) ∨ sub = subPrintdir) ∨ sub = subTint := by
      simpa [isSubCode] using h
    all_goals rfl
  · have reserved : isSubCode sub = false := by simpa using h
    rw [vdu23Refined_of_reserved reserved, vdu23Reply_of_reserved reserved]
    rfl

/-! ### The rows that refine opcode 25 (R234) -/

/-- The row of a primitive code runs the handler of PLOT for that code (R99, R240). -/
theorem exec_plotForm {p : Byte} (hp : plotPrimitive p = p) (absolute : Bool) (e : PlotEffect) (x y : S16) (s : State) :
    exec (plotForm p absolute e x y) s =
      finish (.plot (plotCode p absolute e) x y) (plotReply p absolute e x y s) := by
  obtain ⟨j, hj⟩ := plotPrimitive_eq_mul p
  rw [← hp, hj]
  fin_cases j <;> rfl

/-- The whole PLOT takes its code apart into the primitive code and the fields (R92, R234). -/
theorem exec_plot_plotCode {p : Byte} (hp : plotPrimitive p = p) (absolute : Bool) (e : PlotEffect) (x y : S16)
    (s : State) :
    exec (.plot (plotCode p absolute e) x y) s =
      finish (.plot (plotCode p absolute e) x y) (plotReply p absolute e x y s) := by
  obtain ⟨hprimitive, habsolute, heffect⟩ := plotFields_code p absolute e
  rw [hp] at hprimitive habsolute heffect
  change finish _ (plotReply (plotPrimitive _) (plotAbsolute _) (plotEffect _) x y s) = _
  rw [hprimitive, habsolute, heffect]

/-- The row of a PLOT code runs the handler on the fields of the code (R92, R99). -/
theorem exec_plotRefined (k : Byte) (x y : S16) (s : State) :
    exec (plotRefined k x y) s =
      finish (.plot k x y) (plotReply (plotPrimitive k) (plotAbsolute k) (plotEffect k) x y s) := by
  have h := exec_plotForm (plotPrimitive_idem k) (plotAbsolute k) (plotEffect k) x y s
  rwa [plotCode_fields] at h

/-- A command whose handler leaves the record alone adds one result to it (R45, R123). -/
theorem finished_results_of_session {s : State} {r : Reply} (h : SameSession s r.state) (i : Instr) :
    ∃ o, (finished i r).results = s.results ++ [.completed i.opcode i.operands o] :=
  ⟨r.outcome, by rw [finished_results, h.results, completedResult]⟩

/-- Settles O50: a whole command and its row finish with the same opcode and operand bytes on the reply of one handler. -/
theorem wholeCommandsAgreeWithTheirRefinement : Obligations.WholeCommandsAgreeWithTheirRefinement := by
  refine ⟨fun sub p1 p2 p3 p4 p5 p6 p7 p8 s => ?_, fun k x y s => ?_⟩
  · exact ⟨_, rfl, exec_vdu23Refined .., finished_results_of_session (vdu23Reply_session sub p1 p2 p3 s) _⟩
  · exact ⟨_, rfl, exec_plotRefined .., finished_results_of_session (plotReply_session _ _ _ x y s) _⟩

/-! ### The handler in the terms of the statements -/

/-- Adding coordinates is adding their integers and wrapping (R7). -/
theorem add_eq_wrap16 (v w : S16) : v + w = Spec.wrap16 (v.toInt + w.toInt) := by
  rw [Spec.wrap16, BitVec.ofInt_add, BitVec.ofInt_toInt, BitVec.ofInt_toInt]

/-- The machine's new point is that of R236. -/
theorem newPoint_eq_spec (absolute : Bool) (x y : S16) (cur : Point) :
    newPoint absolute x y cur = Spec.newPoint absolute x y cur := by
  rw [newPoint, Spec.newPoint, add_eq_wrap16, add_eq_wrap16]

/-- What PLOT leaves of the session's own registers, in the terms of the statements (R231, R236). -/
theorem plotReply_state_eq_shifted (code : Byte) (absolute : Bool) (e : PlotEffect) (x y : S16) (s : State) :
    (plotReply code absolute e x y s).state = Spec.shifted s (Spec.newPoint absolute x y s.gcCur) := by
  rw [plotReply_state, newPoint_eq_spec]
  rfl

/-- Move is done once the history has shifted (R241). -/
theorem plotReply_move (code : Byte) (absolute : Bool) (x y : S16) (s : State) :
    plotReply code absolute .move x y s = handled (Spec.shifted s (Spec.newPoint absolute x y s.gcCur)) [] := by
  rw [← newPoint_eq_spec]
  rfl

/-- Every effect but Move draws (R92, R237). -/
theorem exists_drawingColour {e : PlotEffect} (h : e ≠ .move) (s : State) :
    ∃ de colour action, Spec.drawingColour s e = some (de, colour, action) := by
  cases e with
  | move => exact absurd rfl h
  | foreground | inverse | background => exact ⟨_, _, _, rfl⟩

/-- A drawing effect goes on to the drawing half of PLOT, on the history after the shift (R231, R234). -/
theorem plotReply_of_drawing {s : State} {e : PlotEffect} {de : DrawEffect} {colour : Option Colour} {action : Byte}
    (h : Spec.drawingColour s e = some (de, colour, action)) (code : Byte) (absolute : Bool) (x y : S16) :
    plotReply code absolute e x y s = drawReply code de (Spec.shifted s (Spec.newPoint absolute x y s.gcCur)) := by
  rw [← newPoint_eq_spec]
  cases e with
  | move => cases h
  | foreground | inverse | background =>
    cases h
    rfl

/-- The colour and the action of a drawing effect do not depend on the history (R237). -/
theorem plotColour_shifted {s : State} {e : PlotEffect} {de : DrawEffect} {colour : Option Colour} {action : Byte}
    (h : Spec.drawingColour s e = some (de, colour, action)) (p : Point) :
    plotColour (Spec.shifted s p) de = (colour, action) := by
  simp only [Spec.drawingColour, resolve_eq_resolveColour] at h
  cases e with
  | move => cases h
  | foreground | inverse | background =>
    cases h
    rfl

theorem drawReply_of_unsupported {code : Byte} (h : primitiveTable code = none) (e : DrawEffect) (s : State) :
    drawReply code e s = raise s (.unsupportedOperation 25 (some code)) .unsupported := by
  simp [drawReply, h]

theorem drawReply_of_supported {code : Byte} {prim : Primitive} (h : primitiveTable code = some prim) (e : DrawEffect)
    (s : State) :
    drawReply code e s = handled s [.ren (drawRequest s prim e (plotColour s e).2 (plotColour s e).1)] := by
  simp [drawReply, h]

/-! ### The 32 rows (R240) -/

/-- The constructor is the row of the opcode table for this primitive code (R99, R240). -/
structure IsPlotRow (form : Spec.PlotForm) (code : Byte) : Prop where
  form_eq : form = plotForm code
  primitive : plotPrimitive code = code

/-- A row, and the whole PLOT with the row's code, run one handler and return the same operand bytes (R99, R234). -/
theorem IsPlotRow.exec_eq {form : Spec.PlotForm} {code : Byte} (row : IsPlotRow form code) {absolute : Bool}
    {e : PlotEffect} {x y : S16} {i : Instr} (hi : i ∈ [form absolute e x y, .plot (plotCode code absolute e) x y])
    (s : State) :
    exec i s = finish (.plot (plotCode code absolute e) x y) (plotReply code absolute e x y s) := by
  obtain rfl | rfl : i = form absolute e x y ∨ i = .plot (plotCode code absolute e) x y := by simpa using hi
  · rw [row.form_eq]
    exact exec_plotForm row.primitive ..
  · exact exec_plot_plotCode row.primitive ..

/-- The request form is that of the primitive, with its points taken from the history (R239). -/
def RequestOf (prim : Primitive) (form : Spec.DrawForm) : Prop :=
  ∀ (s : State) (e : DrawEffect) (action : Byte) (colour : Option Colour),
    drawRequest s prim e action colour = form s.gcOldest s.gcOld s.gcCur e action colour

/-- The thirteen rows of the statements are rows of the machine's table, with the same requests (R239, R240). -/
theorem supported_rows : ∀ row ∈ Spec.supported,
    IsPlotRow row.1 row.2.1 ∧ ∃ prim, primitiveTable row.2.1 = some prim ∧ RequestOf prim row.2.2 := by
  intro row h
  fin_cases h <;> exact ⟨⟨rfl, rfl⟩, _, rfl, fun _ _ _ _ => rfl⟩

/-- The nineteen rows of the statements are rows of the machine's table, without a primitive (R240). -/
theorem unsupported_rows : ∀ row ∈ Spec.unsupported, IsPlotRow row.1 row.2 ∧ primitiveTable row.2 = none := by
  intro row h
  fin_cases h <;> exact ⟨⟨rfl, rfl⟩, rfl⟩

/-- Every row of the statements, with a primitive or without, is a row of the machine's table (R240). -/
theorem isPlotRow_of_mem {row : Spec.PlotForm × Byte}
    (h : row ∈ Spec.supported.map (fun r => (r.1, r.2.1)) ++ Spec.unsupported) : IsPlotRow row.1 row.2 := by
  rcases List.mem_append.mp h with drawn | reported
  · obtain ⟨r, hr, rfl⟩ := List.mem_map.mp drawn
    exact (supported_rows r hr).1
  · exact (unsupported_rows row reported).1

/-! ### The statements about PLOT -/

/-- Settles O53: the handler leaves the shifted history, whatever the primitive and the effect. -/
theorem everyPlotShiftsTheHistory : Obligations.EveryPlotShiftsTheHistory := by
  intro form h absolute e x y s
  obtain ⟨code, hrow⟩ : ∃ code, (form, code) ∈ Spec.supported.map (fun r => (r.1, r.2.1)) ++ Spec.unsupported := by
    simpa [or_and_right, exists_or] using h
  refine ⟨_, (isPlotRow_of_mem hrow).exec_eq List.mem_cons_self s, ?_⟩
  rw [← plotReply_state_eq_shifted code absolute e x y s]
  rfl

/-- Settles O54: with Move the primitive is not looked up, and a reply without events asks for no `Present`. -/
theorem plotMoveOnlyMoves : Obligations.PlotMoveOnlyMoves := by
  intro row h absolute x y s i hi
  rw [(isPlotRow_of_mem h).exec_eq hi s, plotReply_move]
  exact finish_handled ..

/-- Settles O55: the primitive of the code draws with the points after the shift, and `Present` follows its request. -/
theorem plotDrawsSupportedPrimitives : Obligations.PlotDrawsSupportedPrimitives := by
  intro row h absolute e x y s de colour action drawing i hi
  obtain ⟨isRow, prim, hprim, request⟩ := supported_rows row h
  rw [isRow.exec_eq hi s, plotReply_of_drawing drawing, drawReply_of_supported hprim, request,
    plotColour_shifted drawing]
  exact finish_handled ..

/-- Settles O56: without a primitive the drawing half raises the signal, and a signal is not followed by `Present`. -/
theorem plotReportsUnsupportedPrimitives : Obligations.PlotReportsUnsupportedPrimitives := by
  intro row h absolute e x y s draws i hi
  obtain ⟨isRow, missing⟩ := unsupported_rows row h
  obtain ⟨de, colour, action, drawing⟩ := exists_drawingColour draws s
  rw [isRow.exec_eq hi s, plotReply_of_drawing drawing, drawReply_of_unsupported missing]
  exact congrArg _ (finished_eq_done ..)

end Sys2Proof.Machine
end

section
/-! PROOFS. GWINDOW, TWINDOW and ORIGIN: each writes its words to its own registers, and its result returns the bytes that
the words were read from (O45). -/

namespace Sys2Proof.Machine

/-- A window command returns the bytes that its words were read from, in stream order (R65, R91, R93). -/
theorem windowBytes_le16 (l0 l1 b0 b1 r0 r1 t0 t1 : Byte) :
    windowBytes (le16 l0 l1) (le16 b0 b1) (le16 r0 r1) (le16 t0 t1) = [l0, l1, b0, b1, r0, r1, t0, t1] := by
  simp [windowBytes]

/-- GWINDOW writes the graphics window, for any words (R262, R263). -/
theorem exec_gwindow (l b r t : S16) (s : State) :
    exec (.gwindow l b r t) s =
      .next (Spec.done (s.setVars { s.v with gwin := ⟨l, b, r, t⟩ }) 24 (windowBytes l b r t) .handled []) :=
  finish_handled (.gwindow l b r t) _ []

/-- TWINDOW writes the text window, for any words, and does not move the text cursor (R263, R264). -/
theorem exec_twindow (l b r t : S16) (s : State) :
    exec (.twindow l b r t) s =
      .next (Spec.done (s.setVars { s.v with twin := ⟨l, b, r, t⟩ }) 28 (windowBytes l b r t) .handled []) :=
  finish_handled (.twindow l b r t) _ []

/-- ORIGIN writes both fields of the origin and no point of the history (R266, R267). -/
theorem exec_origin (x y : S16) (s : State) :
    exec (.origin x y) s =
      .next (Spec.done (s.setOrigin ⟨x, y⟩) 29 [loByte x, hiByte x, loByte y, hiByte y] .handled []) :=
  finish_handled (.origin x y) _ []

/-- Settles O45: each command is done on the state with its registers written, and returns its bytes as they were read. -/
theorem windowAndOriginStores : Obligations.WindowAndOriginStores := by
  intro l0 l1 b0 b1 r0 r1 t0 t1 s
  refine ⟨?gwindow, ?twindow, ?origin⟩
  case gwindow =>
    rw [exec_gwindow, windowBytes_le16]
    rfl
  case twindow =>
    rw [exec_twindow, windowBytes_le16]
    rfl
  case origin =>
    rw [exec_origin, loByte_le16, hiByte_le16, loByte_le16, hiByte_le16]
    rfl

end Sys2Proof.Machine
end

section
/-! PROOFS. VDU23: what CURSOR, SCROLL and PRINTDIR leave (O47), the slot that TINT writes (O48), and the bad selectors and
sub-codes (O49). -/

namespace Sys2Proof.Machine

/-- The whole command and the row of its sub-code are done on the reply of one handler, with the same nine operand bytes,
read or not (R99, R280, R282). -/
theorem exec_vdu23_row {sub p1 p2 p3 p4 p5 p6 p7 p8 : Byte} {i : Instr}
    (hi : i ∈ [vdu23Refined sub p1 p2 p3 p4 p5 p6 p7 p8, .vdu23 sub p1 p2 p3 p4 p5 p6 p7 p8]) (s : State) :
    let r := vdu23Reply sub p1 p2 p3 s
    exec i s = .next (Spec.done r.state 23 [sub, p1, p2, p3, p4, p5, p6, p7, p8] r.outcome
      (r.events ++ presentIfNeeded r.events)) := by
  intro r
  have finishes : exec i s = finish (.vdu23 sub p1 p2 p3 p4 p5 p6 p7 p8) r := by
    obtain rfl | rfl : i = vdu23Refined sub p1 p2 p3 p4 p5 p6 p7 p8 ∨ i = .vdu23 sub p1 p2 p3 p4 p5 p6 p7 p8 := by
      simpa using hi
    · exact exec_vdu23Refined ..
    · rfl
  exact finishes.trans (congrArg _ (finished_eq_done ..))

/-- Settles O47: each of the three sub-codes is the key of its own row and selects its own sub-command; only SCROLL's reply
holds a request, so only SCROLL is followed by `Present`. -/
theorem cursorScrollPrintdirResults : Obligations.CursorScrollPrintdirResults := by
  intro p1 p2 p3 p4 p5 p6 p7 p8 s
  refine ⟨fun i hi => ?cursor, fun i hi => ?scroll, fun i hi => ?printdir⟩
  case cursor => exact exec_vdu23_row (sub := subCursor) hi s
  case scroll => exact exec_vdu23_row (sub := subScroll) hi s
  case printdir => exact exec_vdu23_row (sub := subPrintdir) hi s

/-- A selector below 4 names one of the four tint slots, and that one gets the whole byte (R287). -/
theorem tintReply_of_lt {n : Byte} (h : n.toNat < 4) (v : Byte) (s : State) :
    tintReply n v s = handled (s.setVars { s.v with
      tintTextFg := if n = 0 then v else s.v.tintTextFg
      tintTextBg := if n = 1 then v else s.v.tintTextBg
      tintGfxFg := if n = 2 then v else s.v.tintGfxFg
      tintGfxBg := if n = 3 then v else s.v.tintGfxBg }) [] := by
  obtain rfl | rfl | rfl | rfl : n = 0 ∨ n = 1 ∨ n = 2 ∨ n = 3 := by bv_omega
  all_goals rfl

/-- A selector of 4 or more names no slot, and is reported as a bad sub-code (R287). -/
theorem tintReply_of_ge {n : Byte} (h : 4 ≤ n.toNat) (v : Byte) (s : State) :
    tintReply n v s = badSubCode subTint s := by
  unfold tintReply
  split
  case h_5 => rfl
  all_goals omega

/-- TINT, as a row or as a whole command, is done on the reply of its own sub-command (R280, R287). -/
theorem exec_tint_row {n v p3 p4 p5 p6 p7 p8 : Byte} {i : Instr}
    (hi : i ∈ [.vdu23Tint n v p3 p4 p5 p6 p7 p8, .vdu23 17 n v p3 p4 p5 p6 p7 p8]) (s : State) :
    let r := tintReply n v s
    exec i s = .next (Spec.done r.state 23 [17, n, v, p3, p4, p5, p6, p7, p8] r.outcome
      (r.events ++ presentIfNeeded r.events)) :=
  exec_vdu23_row (sub := subTint) hi s

/-- Settles O48: the reply of TINT with a selector of the four, which holds no event. -/
theorem tintStoresInSelectedSlot : Obligations.TintStoresInSelectedSlot := by
  intro n v p3 p4 p5 p6 p7 p8 s h i hi
  rw [exec_tint_row hi s, tintReply_of_lt h]
  rfl

/-- A byte other than the four sub-codes of R281 is reserved. -/
theorem isSubCode_eq_false {sub : Byte} (notCursor : sub ≠ 1) (notScroll : sub ≠ 7) (notPrintdir : sub ≠ 16)
    (notTint : sub ≠ 17) : isSubCode sub = false := by
  simp only [isSubCode, Bool.or_eq_false_iff, beq_eq_false_iff_ne]
  exact ⟨⟨⟨notCursor, notScroll⟩, notPrintdir⟩, notTint⟩

/-- Settles O49: both causes give the reply of R288, which raises the signal on the state it was given; a signal is not
followed by `Present`. -/
theorem badSubCodeChangesNothing : Obligations.BadSubCodeChangesNothing := by
  refine ⟨?selector, ?subCode⟩
  case selector =>
    intro n v p3 p4 p5 p6 p7 p8 s h i hi
    rw [exec_tint_row hi s, tintReply_of_ge h]
    rfl
  case subCode =>
    intro sub p1 p2 p3 p4 p5 p6 p7 p8 s notCursor notScroll notPrintdir notTint i hi
    have reserved := isSubCode_eq_false notCursor notScroll notPrintdir notTint
    rw [← vdu23Refined_of_reserved reserved] at hi
    rw [exec_vdu23_row hi s, vdu23Reply_of_reserved reserved]
    rfl

end Sys2Proof.Machine
end

section
/-! PROOFS. The control codes that the control table leaves out (O51), and reset: the values it leaves (O14), and the host's
reset of a session (O13). -/

namespace Sys2Proof.Machine

/-! ### The codes that the control table leaves out -/

/-- Settles O51: the entry in `CTRL_EXT` decides between discarding the byte and finishing a command on the signal, which
is not followed by `Present`. -/
theorem unlistedControlCodes : Obligations.UnlistedControlCodes := by
  intro row hrow ops s
  obtain ⟨made, meaning⟩ := unlisted_meaning hrow ops s
  rw [meaning]
  rcases unlistedControl_cases row.1 (row.2 ops) s with ⟨absent, discarded⟩ | ⟨n, present, raised⟩
  · exact ⟨fun _ => discarded, fun n mapped => by simp [absent] at mapped⟩
  · refine ⟨fun unmapped => by simp [present] at unmapped, fun _ _ => ?_⟩
    have stands := command_standsFor made
    rw [raised, finished_eq_done, stands.opcode, stands.operands]
    rfl

/-! ### Reset -/

/-- The last index of a dimension is a nonnegative coordinate: a dimension has fifteen bits (R36, R37). -/
theorem lastIndex_toInt (n : BitVec 15) : (lastIndex n).toInt = max (n.toNat : Int) 1 - 1 := by
  have fits : max n.toNat 1 - 1 < 2 ^ 15 := by have := n.isLt; omega
  have unsigned : (lastIndex n).toNat = max n.toNat 1 - 1 := by
    rw [lastIndex, BitVec.toNat_ofNat, Nat.mod_eq_of_lt (by omega)]
  rw [BitVec.toInt_eq_toNat_of_lt (by omega), unsigned]
  omega

/-- The text cursor is at home of the full window in the upright direction, which is its first cell (R31, R340). -/
theorem homeCell_resetFlags (d : ModeDesc) : homeCell resetFlags (fullTextWindow d) = ⟨0, 0⟩ := by
  rw [homeCell_eq_home]
  rfl

/-- The entries of the reset palette that the spec states are those of the reset mode's depth (R28, R340). -/
theorem resetWith_palette_valid (p : Params) (i : Fin 256) (h : i.val < 2 ^ Spec.bits p.resetMode.bitsPerPixel) :
    (build p.resetMode.bitsPerPixel)[i.val]? = some ((State.resetWith p).palette.get i) :=
  paletteRam_valid _ _ i (by rwa [paletteSize_eq_two_pow_bits])

/-- Settles O14: most registers have a constant reset value; the palette, the text cursor, the two foregrounds and the far
edges of the windows follow the reset mode. -/
theorem resetLeavesTheSpecValues : Obligations.ResetLeavesTheSpecValues := by
  intro p
  have white := whiteLogical_eq_whiteOf p.resetMode.bitsPerPixel
  have home := homeCell_resetFlags p.resetMode
  refine ⟨_, rfl, rfl, rfl, rfl, rfl, rfl, rfl, rfl, rfl, resetWith_palette_valid p, rfl, rfl, rfl, rfl, home, white, white,
    rfl, rfl, rfl, rfl, rfl, rfl, rfl, rfl, rfl, rfl, ?gwinRight, ?gwinTop, rfl, rfl, ?twinRight, ?twinBottom, rfl⟩
  case gwinRight => exact lastIndex_toInt p.resetMode.unitWidth
  case gwinTop => exact lastIndex_toInt p.resetMode.unitHeight
  case twinRight => exact lastIndex_toInt p.resetMode.textWidth
  case twinBottom => exact lastIndex_toInt p.resetMode.textHeight

/-- Settles O13: the step is `resetSession`, which carries over only the parameters, the remaining input, the record and the
counter. -/
theorem hostResetGivesTheResetState : Obligations.HostResetGivesTheResetState := by
  intro s rest hinput
  have reset : step s = resetSession { s with input := rest } := step_cons s .reset rest hinput
  exact ⟨_, reset, rfl, rfl, rfl, rfl⟩

end Sys2Proof.Machine
end
